-- ==== Sys2Proof/Word.lean ====
section
/-! DEFINITION. The index and word types of the pacer (the Conventions of 00_scope.md, R1, R54, R67, R69, R127). -/

namespace Sys2Proof

/-- A traffic class, 0–7 (R1). -/
abbrev ClassId := Fin 8

/-- A hold slot, 0–31 (R67). -/
abbrev SlotId := Fin 32

/-- A map entry's number, 0–15 (R54). -/
abbrev MapId := Fin 16

/-- The 6-bit tag of a request and of its responses (R69). -/
abbrev Tag := BitVec 6

/-- A 40-bit byte address (R54, R69). -/
abbrev Address := BitVec 40

/-- A 32-bit write digest, and a word folded into one (R127, R130). -/
abbrev Digest := BitVec 32

/-- Bits in the order they travel on the service link: the first bit sent stands first (R186). -/
abbrev Bits := List Bool

end Sys2Proof
end

