-- ==== Sys2Proof/Syntax.lean ====
section
/-! DEFINITION. The commands and events of the pacer: one constructor of `Instr` for every row of
spec/opcode_table.json, with the packets of the memory-path link (R69) that some of them carry.

A service-link row (R156, R157) is a whole frame: it carries the operand index of its header and every bit
that follows the header, so that no bit of a frame is lost; its code and its odd parity are fixed by the row. -/

namespace Sys2Proof

/-- The kind of a request (R69). -/
inductive Kind where
  | read
  | write
  deriving DecidableEq, Repr

/-- One beat of write data: 16 bytes with 16 byte enables (R69). Byte `i` of the beat is bits 8i+7..8i of
`bytes`, and its enable is bit `i` of `enables`. -/
structure Beat where
  bytes   : BitVec 128
  enables : BitVec 16
  deriving DecidableEq, Repr

/-- A request packet (R69): `length` is in beats, and `data` holds the beats of a WRITE. -/
structure Request where
  kind    : Kind
  tag     : Tag
  address : Address
  length  : Nat
  data    : List Beat
  deriving DecidableEq, Repr

/-- The status of a response packet (R69). -/
inductive ReplyStatus where
  | okay
  | fault
  deriving DecidableEq, Repr

/-- A response packet (R69): `last` is its last marker. -/
inductive Response where
  | writeAck (tag : Tag) (status : ReplyStatus) (last : Bool)
  | readData (tag : Tag) (status : ReplyStatus) (beat : BitVec 128) (last : Bool)
  deriving DecidableEq, Repr

/-- What takes a tick as one act of its own: the record of a class (R7; several period ends of one tick come in
either order, R148), the Hold Pool with all its slots (R82, R83), or the Fence Monitor with all its fences
(R118). -/
inductive TickTaker where
  | record (c : ClassId)
  | pool
  | fenceMonitor
  deriving DecidableEq, Repr

/-- The commands and events of the pacer, one constructor for each row of spec/opcode_table.json. -/
inductive Instr where
  /-- NO_OPERATION (R171). -/
  | noOperation (operand : BitVec 5) (rest : Bits)
  /-- READ_DEVICE_STATUS (R184). -/
  | readDeviceStatus (operand : BitVec 5) (rest : Bits)
  /-- SET_DEVICE_CONTROLS (R183). -/
  | setDeviceControls (operand : BitVec 5) (rest : Bits)
  /-- CLEAR_ALERTS (R181). -/
  | clearAlerts (operand : BitVec 5) (rest : Bits)
  /-- STAGE_DESCRIPTOR (R29). -/
  | stageDescriptor (operand : BitVec 5) (rest : Bits)
  /-- READ_ACTIVE_DESCRIPTOR (R41). -/
  | readActiveDescriptor (operand : BitVec 5) (rest : Bits)
  /-- READ_STAGED_DESCRIPTOR (R41). -/
  | readStagedDescriptor (operand : BitVec 5) (rest : Bits)
  /-- START_CLASS (R34). -/
  | startClass (operand : BitVec 5) (rest : Bits)
  /-- STOP_CLASS (R36). -/
  | stopClass (operand : BitVec 5) (rest : Bits)
  /-- RESTART_CLASS (R38). -/
  | restartClass (operand : BitVec 5) (rest : Bits)
  /-- READ_CLASS_STATUS (R21). -/
  | readClassStatus (operand : BitVec 5) (rest : Bits)
  /-- WRITE_MAP_ENTRY (R61). -/
  | writeMapEntry (operand : BitVec 5) (rest : Bits)
  /-- READ_MAP_ENTRY (R64). -/
  | readMapEntry (operand : BitVec 5) (rest : Bits)
  /-- READ_SLOT (R90). -/
  | readSlot (operand : BitVec 5) (rest : Bits)
  /-- FENCE (R115). -/
  | fence (operand : BitVec 5) (rest : Bits)
  /-- UNFENCE (R121). -/
  | unfence (operand : BitVec 5) (rest : Bits)
  /-- READ_RECORD (R149). -/
  | readRecord (operand : BitVec 5) (rest : Bits)
  /-- RETIRE_RECORD (R150). -/
  | retireRecord (operand : BitVec 5) (rest : Bits)
  /-- CLEAR_REGULATION (R24). -/
  | clearRegulation (operand : BitVec 5) (rest : Bits)
  /-- ZERO_BIT_FRAME (R158). -/
  | zeroBitFrame
  /-- SHORT_HEADER_FRAME (R159): `bits` are the 1 to 11 bits of the frame. -/
  | shortHeaderFrame (bits : Bits)
  /-- LINK_RESET (R161): `rest` are the bits after the twelve ones. -/
  | linkReset (rest : Bits)
  /-- PARITY_ERROR_FRAME (R162): the header's first bit sent is the top bit of `header`. -/
  | parityErrorFrame (header : BitVec 12) (rest : Bits)
  /-- UNKNOWN_COMMAND (R163): a parity-good header with an unassigned code. -/
  | unknownCommand (code : BitVec 6) (operand : BitVec 5) (rest : Bits)
  /-- REQUEST_ACCEPT (R71): the interconnect offers a request at the I-side. -/
  | requestAccept (request : Request)
  /-- ISSUE (R69, R92, R95): the M-side takes the request the arbiter chooses, if any is eligible; `staysReady` says
  whether the memory controller goes on being ready for a request, or ceases to be. -/
  | issue (staysReady : Bool)
  /-- WRITE_ACK (R100). -/
  | writeAck (tag : Tag) (status : ReplyStatus) (last : Bool)
  /-- READ_DATA (R101). -/
  | readData (tag : Tag) (status : ReplyStatus) (beat : BitVec 128) (last : Bool)
  /-- TICK (R177): `order` names takers that take the tick first, in that order; `later` names those that take
  it in a later event of their own (no order among the blocks is given: R83, R148). -/
  | tick (order later : List TickTaker)
  /-- PERIOD_END (R12): the record of class `c` takes a tick that is its natural period end. -/
  | periodEnd (c : ClassId)
  /-- HALF_GRANT (R11): the record of class `c` takes the tick of its half grant. -/
  | halfGrant (c : ClassId)
  /-- HOLD_LIMIT_EXPIRY (R83): the Hold Pool takes a tick at which the hold limit of slot `k`'s request expires. -/
  | holdLimitExpiry (k : SlotId)
  /-- DRAIN_STUCK (R118): the Fence Monitor takes a tick at which the drain limit of class `c` is reached. -/
  | drainStuck (c : ClassId)
  /-- FREEZE_ASSERT (R179). -/
  | freezeAssert
  /-- FREEZE_RELEASE (R178). -/
  | freezeRelease
  /-- HARD_RESET (R23). -/
  | hardReset
  /-- RESET_RELEASE (R91): `selected` says whether SSEL is still asserted at the release (R173). -/
  | resetRelease (selected : Bool)
  /-- M_SIDE_CAN_TAKE_REQUEST (R69, R79): the memory controller becomes ready for a request. -/
  | mSideCanTakeRequest
  /-- SSEL_REMNANT_NEGATION (R173). -/
  | sselRemnantNegation
  deriving DecidableEq, Repr

end Sys2Proof
end

