-- ==== Sys2Proof/Decode.lean ====
section
/-! DEFINITION. Reading the bits of a service-link frame (R157, R160, R186, R187): the row a frame of any
bits stands for, the bits of each frame row, and a frame given as a word (`decodeTableWord`). -/

namespace Sys2Proof

/-- The bits of a word, most significant first (R186). -/
def wordBits {w : Nat} (x : BitVec w) : Bits := (List.range w).map x.getMsbD

/-- The unsigned number a list of bits spells, most significant first (R186). -/
def bitsNat (bs : Bits) : Nat := bs.foldl (fun n b => 2 * n + b.toNat) 0

/-- The field of `width` bits that starts at position `pos` (R186). -/
def bitField (bs : Bits) (pos width : Nat) : BitVec width :=
  BitVec.ofNat width (bitsNat ((bs.drop pos).take width))

/-- A count of ones that passes the parity test of R160. -/
def oddOnes (bs : Bits) : Bool := bs.count true % 2 == 1

/-- The number of bits of a header (R160). -/
def headerLength : Nat := 12

/-- The row of a parity-good header, by its command code (the table of R187); none for the codes that name no
command (R163). -/
def commandOf (code : BitVec 6) (operand : BitVec 5) (rest : Bits) : Option Instr :=
  match code.toNat with
  | 0x00 => some (.noOperation operand rest)
  | 0x01 => some (.readDeviceStatus operand rest)
  | 0x02 => some (.setDeviceControls operand rest)
  | 0x03 => some (.clearAlerts operand rest)
  | 0x08 => some (.stageDescriptor operand rest)
  | 0x09 => some (.readActiveDescriptor operand rest)
  | 0x0A => some (.readStagedDescriptor operand rest)
  | 0x0C => some (.startClass operand rest)
  | 0x0D => some (.stopClass operand rest)
  | 0x0E => some (.restartClass operand rest)
  | 0x0F => some (.readClassStatus operand rest)
  | 0x10 => some (.writeMapEntry operand rest)
  | 0x11 => some (.readMapEntry operand rest)
  | 0x18 => some (.readSlot operand rest)
  | 0x20 => some (.fence operand rest)
  | 0x21 => some (.unfence operand rest)
  | 0x28 => some (.readRecord operand rest)
  | 0x29 => some (.retireRecord operand rest)
  | 0x3C => some (.clearRegulation operand rest)
  | _ => none

/-- Whether a command code names a command (R163, R187). -/
def codeAssigned (code : BitVec 6) : Bool := (commandOf code 0 []).isSome

/-- The row a frame stands for, by tests 1 to 5 of R157; every list of bits is some row's frame. -/
def frameCommand (bits : Bits) : Instr :=
  if bits.length = 0 then .zeroBitFrame
  else if bits.length < headerLength then .shortHeaderFrame bits
  else
    let header := bits.take headerLength
    let rest := bits.drop headerLength
    if header.all id then .linkReset rest
    else if !oddOnes header then .parityErrorFrame (bitField header 0 12) rest
    else
      let code := bitField header 0 6
      let operand := bitField header 6 5
      (commandOf code operand rest).getD (.unknownCommand code operand rest)

/-- The twelve bits of a header with the parity R160 asks for. -/
def headerBits (code : BitVec 6) (operand : BitVec 5) : Bits :=
  let body := wordBits code ++ wordBits operand
  body ++ [!oddOnes body]

/-- The bits of a frame with the given code, operand and further bits. -/
def commandBits (code : BitVec 6) (operand : BitVec 5) (rest : Bits) : Option Bits :=
  some (headerBits code operand ++ rest)

/-- The bits of the frame a service-link row stands for (R187); none for the rows that are no frame. -/
def frameBits : Instr → Option Bits
  | .noOperation o r => commandBits 0x00 o r
  | .readDeviceStatus o r => commandBits 0x01 o r
  | .setDeviceControls o r => commandBits 0x02 o r
  | .clearAlerts o r => commandBits 0x03 o r
  | .stageDescriptor o r => commandBits 0x08 o r
  | .readActiveDescriptor o r => commandBits 0x09 o r
  | .readStagedDescriptor o r => commandBits 0x0A o r
  | .startClass o r => commandBits 0x0C o r
  | .stopClass o r => commandBits 0x0D o r
  | .restartClass o r => commandBits 0x0E o r
  | .readClassStatus o r => commandBits 0x0F o r
  | .writeMapEntry o r => commandBits 0x10 o r
  | .readMapEntry o r => commandBits 0x11 o r
  | .readSlot o r => commandBits 0x18 o r
  | .fence o r => commandBits 0x20 o r
  | .unfence o r => commandBits 0x21 o r
  | .readRecord o r => commandBits 0x28 o r
  | .retireRecord o r => commandBits 0x29 o r
  | .clearRegulation o r => commandBits 0x3C o r
  | .zeroBitFrame => some []
  | .shortHeaderFrame bits => some bits
  | .linkReset r => some (List.replicate headerLength true ++ r)
  | .parityErrorFrame h r => some (wordBits h ++ r)
  | .unknownCommand c o r => commandBits c o r
  | .requestAccept _ => none
  | .issue _ => none
  | .writeAck _ _ _ => none
  | .readData _ _ _ _ => none
  | .tick _ _ => none
  | .periodEnd _ => none
  | .halfGrant _ => none
  | .holdLimitExpiry _ => none
  | .drainStuck _ => none
  | .freezeAssert => none
  | .freezeRelease => none
  | .hardReset => none
  | .resetRelease _ => none
  | .mSideCanTakeRequest => none
  | .sselRemnantNegation => none

/-- The command a word of `nbits` bits spells: the row of the frame whose bits it holds, the first bit sent as the
most significant (R157, R186, R187; log entry 18). A word of no bits spells none. -/
def decodeTableWord (nbits w : Nat) : Option Instr :=
  if nbits = 0 then none else some (frameCommand (wordBits (BitVec.ofNat nbits w)))

end Sys2Proof
end

