-- ==== Sys2Proof/Machine/State.lean ====
section
/-! DEFINITION. The state of the pacer as plain data: what each of the twelve blocks holds (section 3 of
00_scope.md), the pins, the queue of waiting commands, and the state right after a hard reset. -/

namespace Sys2Proof.Machine

/-! ## Class Table (R1, R25) -/

/-- The run state of a class (R1). -/
inductive RunState where
  | idle
  | running
  deriving DecidableEq, Repr

/-- The three kinds of class (R2). -/
inductive ClassKind where
  | idle
  | regulated
  | openClass
  deriving DecidableEq, Repr

/-- The grant mode of a descriptor (R25). -/
inductive GrantMode where
  | whole
  | split
  deriving DecidableEq, Repr

/-- A descriptor: the nine fields of R25. -/
structure Descriptor where
  budget    : BitVec 16
  period    : BitVec 16
  mode      : GrantMode
  lender    : Option ClassId
  priority  : BitVec 2
  holdLimit : BitVec 8
  signing   : Bool
  reporting : Bool
  seed      : Digest
  deriving DecidableEq, Repr

/-- The reset descriptor (R25). -/
def Descriptor.reset : Descriptor :=
  { budget := 0, period := 0, mode := .whole, lender := none, priority := 0, holdLimit := 0
    signing := false, reporting := false, seed := 0 }

/-- A class record: the six fields of R1. -/
structure ClassRecord where
  run     : RunState
  active  : Descriptor
  staged  : Descriptor
  credit  : Int
  counter : BitVec 16
  number  : BitVec 16
  deriving DecidableEq, Repr

/-- A class record after hard reset and after CLEAR REGULATION (R1, R24). -/
def ClassRecord.reset : ClassRecord :=
  { run := .idle, active := .reset, staged := .reset, credit := 0, counter := 0, number := 0 }

/-- How a held request meets the credit condition (R45, R77): freely as a request of an IDLE or open class, by
its forced flag, on its class's own credit, or by lending. -/
inductive Means where
  | free
  | forced
  | own
  | lent (lender : ClassId)
  deriving DecidableEq, Repr

/-! ## Region Map (R54) -/

/-- The kind filter of a map entry (R54). -/
inductive KindFilter where
  | both
  | read
  | write
  deriving DecidableEq, Repr

/-- A map entry: the seven fields of R54. -/
structure MapEntry where
  valid    : Bool
  base     : BitVec 28
  limit    : BitVec 28
  tagMatch : Tag
  tagMask  : Tag
  filter   : KindFilter
  cls      : ClassId
  deriving DecidableEq, Repr

/-- The reset entry (R54). -/
def MapEntry.reset : MapEntry :=
  { valid := false, base := 0, limit := 0, tagMatch := 0, tagMask := 0, filter := .both, cls := 0 }

/-! ## Hold Pool (R67) -/

/-- What a HELD slot holds (R67): the request as accepted, its class, and the state of its wait. -/
structure HeldSlot where
  request      : Request
  cls          : ClassId
  wait         : BitVec 8
  forced       : Bool
  creditWaited : Bool
  deriving DecidableEq, Repr

/-- The reason READ SLOT derives for a held request (R80). -/
inductive HoldReason where
  | ready
  | order
  | fence
  | credit
  | space
  deriving DecidableEq, Repr

/-! ## In-Flight Table (R97) -/

/-- The kind of an in-flight entry, with the length and the beats returned that a READ alone has (R97). -/
inductive Flight where
  | read (length returned : Nat)
  | write
  deriving DecidableEq, Repr

/-- An in-flight entry (R97). -/
structure Entry where
  tag    : Tag
  cls    : ClassId
  flight : Flight
  deriving DecidableEq, Repr

/-! ## Fence Monitor (R113) -/

/-- The fence state of a class (R113). -/
inductive FenceState where
  | unfenced
  | draining
  | fenced
  | stuck
  deriving DecidableEq, Repr

/-- What the Fence Monitor holds for a class (R113). -/
structure FenceRecord where
  state : FenceState
  timer : BitVec 16
  deriving DecidableEq, Repr

/-- A class's fence after each reset (R125, R126). -/
def FenceRecord.reset : FenceRecord := { state := .unfenced, timer := 0 }

/-! ## Period Tally and Report Queue (R139, R142, R145) -/

/-- The seven counts of a class (R139). -/
structure Tally where
  readBeats      : BitVec 24
  writeBeats     : BitVec 24
  lentBeats      : BitVec 24
  borrowedBeats  : BitVec 24
  forcedReleases : BitVec 24
  creditWaits    : BitVec 24
  faults         : BitVec 24
  deriving DecidableEq, Repr

/-- A tally of zeros (R140). -/
def Tally.zero : Tally :=
  { readBeats := 0, writeBeats := 0, lentBeats := 0, borrowedBeats := 0, forcedReleases := 0
    creditWaits := 0, faults := 0 }

/-- The cause of a period record (R141). -/
inductive Cause where
  | elapsed
  | restart
  | stop
  deriving DecidableEq, Repr

/-- The facts of a closed period as the Class Table hands them over (R141, R142); the digest is present for a
signed period only (R143). -/
structure PeriodFacts where
  cls     : ClassId
  number  : BitVec 16
  cause   : Cause
  tally   : Tally
  debt    : Nat
  adopted : Bool
  digest  : Option Digest
  deriving DecidableEq, Repr

/-- A period record in the Report Queue (R142): the facts, with the serial and the gap that admission gives. -/
structure PeriodRecord where
  facts  : PeriodFacts
  serial : BitVec 16
  gap    : Option (BitVec 16)
  deriving DecidableEq, Repr

/-! ## Service Link (R156, R166, R169) -/

/-- The ten statuses (R169). -/
inductive Status where
  | done
  | empty
  | short
  | parity
  | unknown
  | range
  | invalid
  | state
  | mismatch
  | queueEmpty
  deriving DecidableEq, Repr

/-- The response holder (R166). -/
structure ResponseHolder where
  status : Status
  data   : Bits
  deriving DecidableEq, Repr

/-- The response holder after hard reset and after a link reset (R161, R166). -/
def ResponseHolder.reset : ResponseHolder := { status := .empty, data := [] }

/-- The frame receiver between frames: it takes the next frame, or it waits for the negation of an SSEL
assertion that began before the release of RESET (R173). -/
inductive Receiver where
  | ready
  | awaitingNegation
  deriving DecidableEq, Repr

/-! ## Alert Unit (R180) -/

/-- A set of the eight alert events, in the member order of R186. -/
structure EventSet where
  recordLevel   : Bool
  recordDropped : Bool
  fenceDone     : Bool
  fenceStuck    : Bool
  forcedRelease : Bool
  strayResponse : Bool
  shapeError    : Bool
  linkError     : Bool
  deriving DecidableEq, Repr

/-- The empty event set. -/
def EventSet.none : EventSet :=
  { recordLevel := false, recordDropped := false, fenceDone := false, fenceStuck := false
    forcedRelease := false, strayResponse := false, shapeError := false, linkError := false }

/-- The seven sticky events: `true` is pending, `false` is clear (R180). RECORD_LEVEL is a level and is not
stored. -/
structure StickyEvents where
  recordDropped : Bool
  fenceDone     : Bool
  fenceStuck    : Bool
  forcedRelease : Bool
  strayResponse : Bool
  shapeError    : Bool
  linkError     : Bool
  deriving DecidableEq, Repr

/-- Every sticky event clear (R185). -/
def StickyEvents.clear : StickyEvents :=
  { recordDropped := false, fenceDone := false, fenceStuck := false, forcedRelease := false
    strayResponse := false, shapeError := false, linkError := false }

/-- The name of a sticky event (R180). -/
inductive StickyEvent where
  | recordDropped
  | fenceDone
  | fenceStuck
  | forcedRelease
  | strayResponse
  | shapeError
  | linkError
  deriving DecidableEq, Repr

/-! ## The whole state -/

/-- Everything the spec gives the pacer, with the queue of waiting commands; INVENTORY.md names the rule of
each field. -/
structure State where
  /-- Region Map: the sixteen entries (R54). -/
  map : Vector MapEntry 16
  /-- Class Table: the eight class records (R1). -/
  classes : Vector ClassRecord 8
  /-- Time Base: the tick divisor in REFCLK periods (R177). -/
  divisor : BitVec 16
  /-- Time Base: REFCLK periods since the last tick or restart of the count (R177). -/
  count : Nat
  /-- Time Base: the FREEZE input as last seen, `true` when asserted (R177). -/
  freeze : Bool
  /-- Hold Pool: the thirty-two slots; `none` is FREE (R67). -/
  slots : Vector (Option HeldSlot) 32
  /-- Hold Pool: the arrival order, oldest first (R68). -/
  arrival : List SlotId
  /-- In-Flight Table: the entries in issue order, oldest first (R97). -/
  inFlight : List Entry
  /-- Fence Monitor: fence state and drain timer of each class (R113). -/
  fences : Vector FenceRecord 8
  /-- Fence Monitor: the drain limit, 0 for none (R118). -/
  drainLimit : BitVec 16
  /-- Digest Unit: the digest of each class (R127). -/
  digests : Vector Digest 8
  /-- Period Tally: the counts of each class (R139). -/
  tallies : Vector Tally 8
  /-- Report Queue: the records, oldest first (R145). -/
  records : List PeriodRecord
  /-- Report Queue: the serial of the next admitted record (R145). -/
  nextSerial : BitVec 16
  /-- Report Queue: the pending gap count (R145). -/
  pendingGap : BitVec 16
  /-- Service Link: the frame receiver (R173). -/
  receiver : Receiver
  /-- Service Link: the response holder (R166). -/
  holder : ResponseHolder
  /-- Alert Unit: the sticky events (R180). -/
  sticky : StickyEvents
  /-- Alert Unit: the enable mask (R180). -/
  enableMask : EventSet
  /-- Alert Unit: the report threshold (R152). -/
  threshold : BitVec 7
  /-- The RESET pin, `true` while asserted (R23, R91). -/
  resetAsserted : Bool
  /-- The memory controller is ready for a request (R69). -/
  controllerReady : Bool
  /-- SDO: the bits shifted out during the last frame that had bits (R167). -/
  sdo : Bits
  /-- The M-side port: the last request handed to it (R95). -/
  mSideOut : Option Request
  /-- The I-side port: the last response passed to it (R99). -/
  iSideOut : Option Response
  /-- The model's own: what has yet to take the last tick made (log entry 2). -/
  owedTicks : List TickTaker
  /-- The model's own: how many ticks the REFCLK count has made, the argument of the free value
  `Config.tickOrder` (log entry 3). -/
  refclkTicks : Nat
  /-- The commands and events that are waiting, first in first out. -/
  pending : List Instr
  deriving DecidableEq, Repr

/-- Right after RESET is released: every block at its hard-reset value (R23, R42, R65, R91, R110, R125, R137,
R154, R166, R173, R185). DESIGN CHOICE (log entry 5): the pins whose level the spec leaves to the outside are FREEZE
negated, RESET released, the memory controller not ready, and SSEL negated at the release, so that `receiver` is
ready; R173 gives the other case too, a remnant waited out, which HARD_RESET and RESET_RELEASE reach. -/
def State.reset : State :=
  { map := Vector.replicate 16 .reset
    classes := Vector.replicate 8 .reset
    divisor := 1000
    count := 0
    freeze := false
    slots := Vector.replicate 32 none
    arrival := []
    inFlight := []
    fences := Vector.replicate 8 .reset
    drainLimit := 0
    digests := Vector.replicate 8 0
    tallies := Vector.replicate 8 .zero
    records := []
    nextSerial := 0
    pendingGap := 0
    receiver := .ready
    holder := .reset
    sticky := .clear
    enableMask := .none
    threshold := 48
    resetAsserted := false
    controllerReady := false
    sdo := []
    mSideOut := none
    iSideOut := none
    owedTicks := []
    refclkTicks := 0
    pending := [] }

/-! ## The outcomes of a step -/

/-- The faults of a step: none. The spec gives every command and event an effect or none at all on every state,
and no event stops the part. -/
inductive Fault where
  deriving DecidableEq, Repr

/-- The refusals of a step. -/
inductive Refusal where
  /-- Raised by `exec` for a row without a meaning. Safe: the model stops. -/
  | notModelled (mnemonic : String)
  /-- Raised by the meaning of the named row for a term that no frame or packet of that row can be
  (`Instr.wf`: R69, R157). Safe: the model stops on what the outside cannot send. -/
  | illFormed (mnemonic : String)
  deriving DecidableEq, Repr

/-- The outcome of a command. -/
abbrev Result := Host.Outcome State Fault Refusal

end Sys2Proof.Machine
end

