-- ==== Sys2Proof/Machine/Flags.lean ====
section
/-! DEFINITION. The conditions and levels derived from the state: a class's kind, the grants, port readiness,
RECORD_LEVEL, the ALERT line and the figures of device status. -/

namespace Sys2Proof.Machine

/-! ## Classes -/

/-- The kind of a class (R2). -/
def ClassRecord.kind (r : ClassRecord) : ClassKind :=
  match r.run with
  | .idle => .idle
  | .running => if r.active.period = 0 then .openClass else .regulated

/-- Whether a class is regulated (R2). -/
def ClassRecord.isRegulated (r : ClassRecord) : Bool := r.kind == .regulated

/-- Whether a class is RUNNING (R1). -/
def ClassRecord.isRunning (r : ClassRecord) : Bool := r.run == .running

/-- The opening grant (R10): the budget in WHOLE mode and for a SPLIT class of period 1, else its upper half. -/
def Descriptor.openingGrant (d : Descriptor) : Int :=
  match d.mode with
  | .whole => d.budget.toNat
  | .split => if d.period = 1 then d.budget.toNat else (d.budget.toNat + 1) / 2

/-- The half grant (R11). -/
def Descriptor.halfGrant (d : Descriptor) : Int := d.budget.toNat / 2

/-- Whether the half grant falls at a counter (R11). -/
def Descriptor.halfGrantAt (d : Descriptor) (counter : BitVec 16) : Bool :=
  d.mode == .split && decide (2 ≤ d.period.toNat) && counter.toNat == d.period.toNat / 2

/-- The credit at START CLASS (first row of R10; R34 step 3 for an open class). -/
def Descriptor.startCredit (d : Descriptor) : Int :=
  if d.period = 0 then 0 else d.openingGrant

/-- The credit at a natural period end or RESTART CLASS under the new descriptor (second and fourth rows of
R10): the opening grant with any debt carried, or 0 for a class now open. -/
def Descriptor.renewedCredit (d : Descriptor) (old : Int) : Int :=
  if d.period = 0 then 0 else d.openingGrant + min old 0

/-- The debt carried into a new period (R18). -/
def debtOf (credit : Int) : Nat := (min credit 0).natAbs

/-- Whether a held request of a class with record `r` expires (R83), its wait counter already raised. -/
def ClassRecord.expires (r : ClassRecord) (h : HeldSlot) : Bool :=
  r.isRegulated && r.active.holdLimit != 0 && decide (r.active.holdLimit.toNat ≤ h.wait.toNat) && !h.forced

/-! ## Ports and capacities -/

/-- The number of in-flight entries the table can hold (R97, R98). -/
def inFlightCapacity : Nat := 48

/-- The number of records the Report Queue can hold (R145). -/
def queueCapacity : Nat := 64

/-- The lowest-numbered FREE slot (R71). -/
def State.freeSlot (s : State) : Option SlotId := (List.finRange 32).find? fun k => s.slots[k].isNone

/-- The I-side port is ready for a request (R70). -/
def State.iSideReady (s : State) : Bool := !s.resetAsserted && s.freeSlot.isSome

/-- The M-side can take a request (R69). -/
def State.mSideCanTake (s : State) : Bool := s.controllerReady && !s.resetAsserted

/-- The M-side port takes a response that the memory controller offers to a ready I-side partner (R99). -/
def State.mSideReady (s : State) : Bool := !s.resetAsserted

/-- The number of HELD slots (R109). -/
def State.heldCount (s : State) : Nat := s.slots.toList.countP Option.isSome

/-- Whether any in-flight entry names a class (R107). -/
def State.hasEntry (s : State) (c : ClassId) : Bool := s.inFlight.any fun e => e.cls == c

/-! ## Alerts -/

/-- RECORD_LEVEL holds (R152). -/
def State.recordLevel (s : State) : Bool := decide (s.threshold.toNat ≤ s.records.length)

/-- The states of the eight events: pending for a sticky one, the comparison for RECORD_LEVEL (R180). -/
def State.eventStates (s : State) : EventSet :=
  { recordLevel := s.recordLevel
    recordDropped := s.sticky.recordDropped
    fenceDone := s.sticky.fenceDone
    fenceStuck := s.sticky.fenceStuck
    forcedRelease := s.sticky.forcedRelease
    strayResponse := s.sticky.strayResponse
    shapeError := s.sticky.shapeError
    linkError := s.sticky.linkError }

/-- The members common to two event sets. -/
def EventSet.inter (a b : EventSet) : EventSet :=
  { recordLevel := a.recordLevel && b.recordLevel
    recordDropped := a.recordDropped && b.recordDropped
    fenceDone := a.fenceDone && b.fenceDone
    fenceStuck := a.fenceStuck && b.fenceStuck
    forcedRelease := a.forcedRelease && b.forcedRelease
    strayResponse := a.strayResponse && b.strayResponse
    shapeError := a.shapeError && b.shapeError
    linkError := a.linkError && b.linkError }

/-- The ALERT output, `true` when asserted (R182): some event is both active and enabled, and RESET is not
asserted. -/
def State.alert (s : State) : Bool :=
  !s.resetAsserted && s.eventStates.inter s.enableMask != .none

/-- The sticky events left after the named ones are cleared (R181). -/
def StickyEvents.without (e : StickyEvents) (named : EventSet) : StickyEvents :=
  { recordDropped := e.recordDropped && !named.recordDropped
    fenceDone := e.fenceDone && !named.fenceDone
    fenceStuck := e.fenceStuck && !named.fenceStuck
    forcedRelease := e.forcedRelease && !named.forcedRelease
    strayResponse := e.strayResponse && !named.strayResponse
    shapeError := e.shapeError && !named.shapeError
    linkError := e.linkError && !named.linkError }

/-- The sticky events once one is raised (R180). -/
def StickyEvents.raise (e : StickyEvents) : StickyEvent → StickyEvents
  | .recordDropped => { e with recordDropped := true }
  | .fenceDone => { e with fenceDone := true }
  | .fenceStuck => { e with fenceStuck := true }
  | .forcedRelease => { e with forcedRelease := true }
  | .strayResponse => { e with strayResponse := true }
  | .shapeError => { e with shapeError := true }
  | .linkError => { e with linkError := true }

end Sys2Proof.Machine
end

