-- ==== Sys2Proof/Machine/Table.lean ====
section
/-! DEFINITION. Helpers over fixed tables and saturating counts. -/

namespace Sys2Proof.Machine

/-- The table whose entry `i` is `f i`. -/
def tabulate {α : Type} {n : Nat} (f : Fin n → α) : Vector α n :=
  ⟨⟨(List.finRange n).map f⟩, by simp⟩

/-- A count that saturates at its largest value (section 5 of 00_scope.md: it "stops at its upper bound and does
not wrap"). -/
def satAdd {w : Nat} (x : BitVec w) (n : Nat) : BitVec w :=
  BitVec.ofNat w (min (x.toNat + n) (2 ^ w - 1))

end Sys2Proof.Machine
end

