-- ==== Sys2Proof/Machine/Eligibility.lean ====
section
/-! DEFINITION. The judgement of held requests: the four conditions of R74, the means of the credit condition
(R45, R77), the derived reason (R80), the arbiter's choice (R93) and the credit-waited flag (R79). -/

namespace Sys2Proof.Machine

/-- The slots ahead of a slot in the arrival order (R68). -/
def State.olderThan (s : State) (k : SlotId) : List SlotId := s.arrival.takeWhile fun j => j != k

/-- The age rank of a slot (R68). -/
def State.ageRank (s : State) (k : SlotId) : Nat := (s.olderThan k).length

/-- Two requests of one tag and one kind (R75). -/
def sameChain (a b : Request) : Bool := a.tag == b.tag && a.kind == b.kind

/-- The order condition (R75): no older held request has the same tag and kind. -/
def State.orderHolds (s : State) (k : SlotId) (h : HeldSlot) : Bool :=
  (s.olderThan k).all fun j =>
    match s.slots[j] with
    | some g => !sameChain g.request h.request
    | none => true

/-- The fence condition (R76). -/
def State.fenceHolds (s : State) (h : HeldSlot) : Bool := s.fences[h.cls].state == .unfenced

/-- Whether a class can lend to a request (R44, conditions 5 and 6). -/
def State.canLend (s : State) (l : ClassId) (r : Request) : Bool :=
  s.classes[l].isRegulated && decide ((r.length : Int) ≤ s.classes[l].credit)

/-- The first means by which a request meets the credit condition, in the order of R45; none when the condition
fails (R77). -/
def State.creditMeans (s : State) (h : HeldSlot) : Option Means :=
  let r := s.classes[h.cls]
  if !r.isRegulated then some .free
  else if h.forced then some .forced
  else if 1 ≤ r.credit then some .own
  else
    match r.active.lender with
    | none => none
    | some l => if s.canLend l h.request then some (.lent l) else none

/-- The space condition (R78). -/
def State.spaceHolds (s : State) : Bool := decide (s.inFlight.length < inFlightCapacity)

/-- The derived reason of a held request (R80): the first failing condition. -/
def State.holdReason (s : State) (k : SlotId) (h : HeldSlot) : HoldReason :=
  if !s.orderHolds k h then .order
  else if !s.fenceHolds h then .fence
  else if (s.creditMeans h).isNone then .credit
  else if !s.spaceHolds then .space
  else .ready

/-- Whether a slot holds an eligible request (R74). -/
def State.eligible (s : State) (k : SlotId) : Bool :=
  match s.slots[k] with
  | some h => s.holdReason k h == .ready
  | none => false

/-- The eligible slots, oldest first. -/
def State.eligibleSlots (s : State) : List SlotId := s.arrival.filter s.eligible

/-- Whether a slot's request is in the forced group (R93): forced, of a RUNNING class. -/
def State.inForcedGroup (s : State) (k : SlotId) : Bool :=
  match s.slots[k] with
  | some h => h.forced && s.classes[h.cls].isRunning
  | none => false

/-- The priority that ranks a slot's request (R93): that of its class's active descriptor. -/
def State.rank (s : State) (k : SlotId) : Nat :=
  match s.slots[k] with
  | some h => s.classes[h.cls].active.priority.toNat
  | none => 0

/-- The arbiter's choice (R93): the oldest eligible request of the forced group, else the oldest of the highest
priority. -/
def State.choice (s : State) : Option SlotId :=
  match s.eligibleSlots.find? s.inForcedGroup with
  | some k => some k
  | none => s.eligibleSlots.find? fun k => s.eligibleSlots.all fun j => decide (s.rank j ≤ s.rank k)

/-- What a judgement makes of a held slot (R79): its credit-waited flag is set where order and fence hold and
credit fails, and nothing else changes. -/
def State.judgeSlot (s : State) (k : SlotId) (h : HeldSlot) : HeldSlot :=
  if s.holdReason k h = .credit then { h with creditWaited := true } else h

/-- A judgement of every held request (R74, R79). -/
def State.judge (s : State) : State :=
  { s with slots := tabulate fun k => (s.slots[k]).map (s.judgeSlot k) }

/-- The judgement that follows a change of state while the M-side can take a request (R74). -/
def State.judged (s : State) : State := if s.mSideCanTake then s.judge else s

end Sys2Proof.Machine
end

