-- ==== Sys2Proof/Machine/Layouts.lean ====
section
/-! DEFINITION. The layouts of the response data (R188, R189, R190), the status codes (R187) and the encodings of
R186. -/

namespace Sys2Proof.Machine

/-- The four-bit code of a status (R187). -/
def Status.code : Status → BitVec 4
  | .done => 0x0
  | .empty => 0x1
  | .short => 0x2
  | .parity => 0x3
  | .unknown => 0x4
  | .range => 0x5
  | .invalid => 0x6
  | .state => 0x7
  | .mismatch => 0x8
  | .queueEmpty => 0x9

/-- The code of a grant mode (R188). -/
def GrantMode.code : GrantMode → BitVec 2
  | .whole => 0
  | .split => 1

/-- The code of a lender field (R188): 15 for no lender. -/
def lenderCode : Option ClassId → BitVec 4
  | none => 15
  | some c => BitVec.ofNat 4 c.val

/-- The code of a kind filter (R188). -/
def KindFilter.code : KindFilter → BitVec 2
  | .both => 0
  | .read => 1
  | .write => 2

/-- The code of a fence state (R189). -/
def FenceState.code : FenceState → BitVec 2
  | .unfenced => 0
  | .draining => 1
  | .fenced => 2
  | .stuck => 3

/-- The code of a derived reason (R189). -/
def HoldReason.code : HoldReason → BitVec 3
  | .ready => 1
  | .order => 2
  | .fence => 3
  | .credit => 4
  | .space => 5

/-- The code of a cause (R190). -/
def Cause.code : Cause → BitVec 2
  | .elapsed => 0
  | .restart => 1
  | .stop => 2

/-- An unsigned quantity in a field of `w` bits (R186). -/
def natBits (w n : Nat) : Bits := wordBits (BitVec.ofNat w n)

/-- A class number in its 3-bit field. -/
def classBits (c : ClassId) : Bits := natBits 3 c.val

/-- The credit in its 17-bit two's-complement field (R186). -/
def creditBits (credit : Int) : Bits := wordBits (BitVec.ofInt 17 credit)

/-- An event set, member 0 first (R186). -/
def EventSet.bits (e : EventSet) : Bits :=
  [e.recordLevel, e.recordDropped, e.fenceDone, e.fenceStuck, e.forcedRelease, e.strayResponse, e.shapeError,
    e.linkError]

/-- The 82 bits of a descriptor (R188). -/
def Descriptor.bits (d : Descriptor) : Bits :=
  wordBits d.budget ++ wordBits d.period ++ wordBits d.mode.code ++ wordBits (lenderCode d.lender)
    ++ wordBits d.priority ++ wordBits d.holdLimit ++ [d.signing, d.reporting] ++ wordBits d.seed

/-- The 74 bits of a map entry (R188). -/
def MapEntry.bits (e : MapEntry) : Bits :=
  [e.valid] ++ wordBits e.base ++ wordBits e.limit ++ wordBits e.tagMatch ++ wordBits e.tagMask
    ++ wordBits e.filter.code ++ classBits e.cls

/-- The seven counts in their 24-bit fields (R189, R190). -/
def Tally.bits (t : Tally) : Bits :=
  wordBits t.readBeats ++ wordBits t.writeBeats ++ wordBits t.lentBeats ++ wordBits t.borrowedBeats
    ++ wordBits t.forcedReleases ++ wordBits t.creditWaits ++ wordBits t.faults

/-- The 268 bits of class status (R189), as the state stands (R21). -/
def State.classStatusBits (s : State) (c : ClassId) : Bits :=
  [s.classes[c].isRunning] ++ wordBits s.fences[c].state.code ++ creditBits s.classes[c].credit
    ++ wordBits s.classes[c].counter ++ wordBits s.classes[c].number ++ wordBits s.fences[c].timer
    ++ wordBits s.digests[c] ++ s.tallies[c].bits

/-- The 74 bits of a slot (R90, R189): all zero for a FREE one. -/
def State.slotBits (s : State) (k : SlotId) : Bits :=
  match s.slots[k] with
  | none => List.replicate 74 false
  | some h =>
    [true, h.request.kind == .write] ++ wordBits h.request.tag ++ wordBits h.request.address
      ++ natBits 5 h.request.length ++ classBits h.cls ++ natBits 5 (s.ageRank k) ++ wordBits h.wait
      ++ [h.forced, h.creditWaited] ++ wordBits (s.holdReason k h).code

/-- The 108 bits of device status (R184, R189). -/
def State.deviceStatusBits (s : State) : Bits :=
  natBits 6 s.heldCount ++ natBits 6 s.inFlight.length ++ natBits 7 s.records.length ++ wordBits s.nextSerial
    ++ wordBits s.pendingGap ++ [s.freeze] ++ wordBits s.divisor ++ wordBits s.drainLimit
    ++ wordBits s.threshold ++ s.enableMask.bits ++ s.eventStates.bits ++ [s.alert]

/-- The bits of a period record (R190): 212, with 32 more for a present digest and 16 more for a present gap. -/
def PeriodRecord.bits (p : PeriodRecord) : Bits :=
  wordBits p.serial ++ classBits p.facts.cls ++ wordBits p.facts.number ++ wordBits p.facts.cause.code
    ++ natBits 4 p.facts.debt ++ [p.facts.adopted, p.facts.digest.isSome, p.gap.isSome] ++ p.facts.tally.bits
    ++ (p.facts.digest.map wordBits).getD [] ++ (p.gap.map wordBits).getD []

end Sys2Proof.Machine
end

