-- ==== Sys2Proof/Machine/Operands.lean ====
section
/-! DEFINITION. The operands of the service-link commands: the operand index of the header (R160) and the
payloads (R188), each read with the range tests its owner gives (R28, R60, R165, R183). -/

namespace Sys2Proof.Machine

/-! ## The operand index (R160) -/

/-- An operand that names a class; none is out of range. -/
def classOperand (operand : BitVec 5) : Option ClassId :=
  if h : operand.toNat < 8 then some ⟨operand.toNat, h⟩ else none

/-- An operand that names a map entry; none is out of range. -/
def entryOperand (operand : BitVec 5) : Option MapId :=
  if h : operand.toNat < 16 then some ⟨operand.toNat, h⟩ else none

/-- An operand that names a slot: every value does (R90). -/
def slotOperand (operand : BitVec 5) : SlotId := ⟨operand.toNat, operand.isLt⟩

/-! ## Payload lengths (R187) -/

/-- Payload bits of SET DEVICE CONTROLS. -/
def controlsLength : Nat := 47

/-- Payload bits of STAGE DESCRIPTOR. -/
def descriptorLength : Nat := 82

/-- Payload bits of WRITE MAP ENTRY. -/
def mapEntryLength : Nat := 74

/-- Payload bits of a class set or an event set. -/
def setLength : Nat := 8

/-- Payload bits of RETIRE RECORD. -/
def serialLength : Nat := 16

/-! ## Payloads (R188) -/

/-- A one-bit field: the bit itself, `true` for 1 (R186). -/
def bitFlag (bs : Bits) (pos : Nat) : Bool := bs.getD pos false

/-- The grant mode of a code; none is out of range (R28). -/
def modeOfCode (code : BitVec 2) : Option GrantMode :=
  if code = 0 then some .whole else if code = 1 then some .split else none

/-- The lender of a code; the outer none is out of range (R28). -/
def lenderOfCode (code : BitVec 4) : Option (Option ClassId) :=
  if h : code.toNat < 8 then some (some ⟨code.toNat, h⟩)
  else if code = 15 then some none
  else none

/-- The kind filter of a code; none is out of range (R60). -/
def filterOfCode (code : BitVec 2) : Option KindFilter :=
  if code = 0 then some .both
  else if code = 1 then some .read
  else if code = 2 then some .write
  else none

/-- The descriptor of a payload; none is out of range (R28). -/
def parseDescriptor (bs : Bits) : Option Descriptor :=
  match modeOfCode (bitField bs 32 2), lenderOfCode (bitField bs 34 4) with
  | some mode, some lender =>
    some
      { budget := bitField bs 0 16
        period := bitField bs 16 16
        mode := mode
        lender := lender
        priority := bitField bs 38 2
        holdLimit := bitField bs 40 8
        signing := bitFlag bs 48
        reporting := bitFlag bs 49
        seed := bitField bs 50 32 }
  | _, _ => none

/-- The class a 3-bit field names. -/
def classOfBits (code : BitVec 3) : ClassId := ⟨code.toNat, code.isLt⟩

/-- The map entry of a payload; none is out of range (R60). -/
def parseMapEntry (bs : Bits) : Option MapEntry :=
  match filterOfCode (bitField bs 69 2) with
  | some filter =>
    let base : BitVec 28 := bitField bs 1 28
    let limit : BitVec 28 := bitField bs 29 28
    if base.toNat ≤ limit.toNat then
      some
        { valid := bitFlag bs 0
          base := base
          limit := limit
          tagMatch := bitField bs 57 6
          tagMask := bitField bs 63 6
          filter := filter
          cls := classOfBits (bitField bs 71 3) }
    else none
  | none => none

/-- The event set whose first bit stands at a position (the member order of R186). -/
def parseEventSet (bs : Bits) (pos : Nat) : EventSet :=
  { recordLevel := bitFlag bs pos
    recordDropped := bitFlag bs (pos + 1)
    fenceDone := bitFlag bs (pos + 2)
    fenceStuck := bitFlag bs (pos + 3)
    forcedRelease := bitFlag bs (pos + 4)
    strayResponse := bitFlag bs (pos + 5)
    shapeError := bitFlag bs (pos + 6)
    linkError := bitFlag bs (pos + 7) }

/-- Whether a class set names a class: its first bit stands for class 0 (R186). -/
def namedIn (bs : Bits) (c : ClassId) : Bool := bitFlag bs c.val

/-- The four settings of SET DEVICE CONTROLS (R183). -/
structure Controls where
  divisor    : BitVec 16
  drainLimit : BitVec 16
  threshold  : BitVec 7
  mask       : EventSet
  deriving DecidableEq, Repr

/-- The settings of a payload; none is out of range (R183). -/
def parseControls (bs : Bits) : Option Controls :=
  let divisor : BitVec 16 := bitField bs 0 16
  let threshold : BitVec 7 := bitField bs 32 7
  if 16 ≤ divisor.toNat ∧ 1 ≤ threshold.toNat ∧ threshold.toNat ≤ 64 then
    some
      { divisor := divisor
        drainLimit := bitField bs 16 16
        threshold := threshold
        mask := parseEventSet bs 39 }
  else none

/-- The serial of a RETIRE RECORD payload. -/
def parseSerial (bs : Bits) : BitVec 16 := bitField bs 0 16

end Sys2Proof.Machine
end

