-- ==== Sys2Proof/Machine/Ops.lean ====
section
/-! DEFINITION. The operations the meanings share: raising an event, handing a record over, starting and renewing
a period, charging, tallying and folding an issue, counting and draining at a response, and taking a tick. -/

namespace Sys2Proof.Machine

/-! ## Alert Unit and Class Table -/

/-- Raises a sticky event (R180). -/
def State.raise (e : StickyEvent) (s : State) : State := { s with sticky := s.sticky.raise e }

/-- Changes one class record. -/
def State.updateClass (c : ClassId) (f : ClassRecord → ClassRecord) (s : State) : State :=
  { s with classes := s.classes.set c (f s.classes[c]) }

/-- Changes one class's tally. -/
def State.updateTally (c : ClassId) (f : Tally → Tally) (s : State) : State :=
  { s with tallies := s.tallies.set c (f s.tallies[c]) }

/-! ## Report Queue (R146, R147) -/

/-- Hands a record over: admitted while the queue has room (R146), dropped otherwise (R147). -/
def State.handOver (p : PeriodFacts) (s : State) : State :=
  if s.records.length < queueCapacity then
    { s with
      records := s.records ++
        [{ facts := p, serial := s.nextSerial, gap := if s.pendingGap = 0 then none else some s.pendingGap }]
      nextSerial := s.nextSerial + 1
      pendingGap := 0 }
  else { s.raise .recordDropped with pendingGap := satAdd s.pendingGap 1 }

/-! ## Periods (R12, R36, R38) -/

/-- The facts of the period that class `c` closes (R142, R143): a STOP record carries no debt (R18), and a digest
is present when the outgoing descriptor signs. -/
def State.periodFacts (c : ClassId) (cause : Cause) (s : State) : PeriodFacts :=
  let r := s.classes[c]
  { cls := c
    number := r.number
    cause := cause
    tally := s.tallies[c]
    debt := if cause = .stop then 0 else debtOf r.credit
    adopted := r.staged != r.active
    digest := if r.active.signing then some s.digests[c] else none }

/-- Reports the closing period when the outgoing descriptor reports (R141). -/
def State.report (c : ClassId) (cause : Cause) (s : State) : State :=
  if s.classes[c].active.reporting then s.handOver (s.periodFacts c cause) else s

/-- Tells the Period Tally and the Digest Unit that a period of class `c` starts (R128, R140). -/
def State.startPeriod (c : ClassId) (s : State) : State :=
  { s with
    tallies := s.tallies.set c .zero
    digests := s.digests.set c s.classes[c].active.seed }

/-- A class record at the boundary between two periods (R12 steps 2 to 4, R38 steps 2 to 4): the staged
descriptor is adopted, the period number rises, the counter is 0 and the credit is renewed. -/
def ClassRecord.renew (r : ClassRecord) : ClassRecord :=
  { r with
    active := r.staged
    number := r.number + 1
    counter := 0
    credit := r.staged.renewedCredit r.credit }

/-- Closes the period of class `c` and opens the next (R12, R38). -/
def State.renewPeriod (c : ClassId) (cause : Cause) (s : State) : State :=
  ((s.report c cause).updateClass c ClassRecord.renew).startPeriod c

/-! ## Issue (R95) -/

/-- Lowers a class's credit by a number of beats. -/
def State.chargeClass (c : ClassId) (beats : Nat) (s : State) : State :=
  s.updateClass c fun r => { r with credit := r.credit - beats }

/-- The charge of an issue (R14, R45, R46). -/
def State.charge (h : HeldSlot) (m : Means) (s : State) : State :=
  match m with
  | .free => s
  | .forced => s
  | .own => s.chargeClass h.cls h.request.length
  | .lent l => s.chargeClass l h.request.length

/-- A lender counted in a tally. -/
def Means.isLent : Means → Bool
  | .lent _ => true
  | _ => false

/-- The counts an issue raises in the tally of its own class (R96). -/
def Tally.countIssue (h : HeldSlot) (m : Means) (t : Tally) : Tally :=
  { t with
    readBeats := if h.request.kind = .read then satAdd t.readBeats h.request.length else t.readBeats
    writeBeats := if h.request.kind = .write then satAdd t.writeBeats h.request.length else t.writeBeats
    borrowedBeats := if m.isLent then satAdd t.borrowedBeats h.request.length else t.borrowedBeats
    forcedReleases := if h.forced then satAdd t.forcedReleases 1 else t.forcedReleases
    creditWaits := if h.creditWaited then satAdd t.creditWaits 1 else t.creditWaits }

/-- The count an issue raises in the tally of a lender (R96). -/
def State.countLent (h : HeldSlot) (m : Means) (s : State) : State :=
  match m with
  | .lent l => s.updateTally l fun t => { t with lentBeats := satAdd t.lentBeats h.request.length }
  | _ => s

/-- Counts an issue of a RUNNING class (R96). -/
def State.countIssue (h : HeldSlot) (m : Means) (s : State) : State :=
  if s.classes[h.cls].isRunning then (s.updateTally h.cls (Tally.countIssue h m)).countLent h m else s

/-- Byte `i` of a beat as it is folded (R130): zero when its byte enable is clear. -/
def beatByte (b : Beat) (i : Nat) : BitVec 8 :=
  if b.enables.getLsbD i then b.bytes.extractLsb' (8 * i) 8 else 0

/-- Word `k` of a beat (R130): byte 4k is the least significant. -/
def beatWord (b : Beat) (k : Nat) : Digest :=
  beatByte b (4 * k + 3) ++ beatByte b (4 * k + 2) ++ beatByte b (4 * k + 1) ++ beatByte b (4 * k)

/-- The words a write is folded as (R130): the low 32 address bits, then four words for each beat. -/
def foldWords (r : Request) : List Digest :=
  r.address.extractLsb' 0 32 :: r.data.flatMap fun b => [beatWord b 0, beatWord b 1, beatWord b 2, beatWord b 3]

/-- The constant of the fold (R131). -/
def foldConstant : Digest := 0x8F6E37A1

/-- One fold of a word into a digest (R131). -/
def foldDigest (d w : Digest) : Digest :=
  let shifted := d <<< 1
  (if d.msb then shifted ^^^ foldConstant else shifted) ^^^ w

/-- Folds an issued write of a signing RUNNING class (R129, R132). -/
def State.foldIssue (h : HeldSlot) (s : State) : State :=
  if h.request.kind = .write ∧ s.classes[h.cls].isRunning ∧ s.classes[h.cls].active.signing then
    { s with digests := s.digests.set h.cls ((foldWords h.request).foldl foldDigest s.digests[h.cls]) }
  else s

/-- The in-flight entry of an issued request (R97). -/
def HeldSlot.entry (h : HeldSlot) : Entry :=
  { tag := h.request.tag
    cls := h.cls
    flight :=
      match h.request.kind with
      | .read => .read h.request.length 0
      | .write => .write }

/-- What the M-side, the Hold Pool and the In-Flight Table do at an issue (R95 steps 1 to 3). -/
def State.sendOut (k : SlotId) (h : HeldSlot) (s : State) : State :=
  { s with
    mSideOut := some h.request
    slots := s.slots.set k none
    arrival := s.arrival.filter fun j => j != k
    inFlight := s.inFlight ++ [h.entry] }

/-- The issue of a held request by the means it met the credit condition (R95). -/
def State.issueSlot (k : SlotId) (h : HeldSlot) (m : Means) (s : State) : State :=
  (((s.sendOut k h).charge h m).countIssue h m).foldIssue h

/-! ## Responses (R105, R107, R117) -/

/-- Counts a matched response with status FAULT for a RUNNING class (R105). -/
def State.countFault (c : ClassId) (status : ReplyStatus) (s : State) : State :=
  if status = .fault ∧ s.classes[c].isRunning then
    s.updateTally c fun t => { t with faults := satAdd t.faults 1 }
  else s

/-- The Fence Monitor's move when a class has drained (R117). -/
def FenceRecord.drain (f : FenceRecord) : FenceRecord :=
  match f.state with
  | .draining => { f with state := .fenced }
  | .stuck => { f with state := .fenced }
  | .fenced => f
  | .unfenced => f

/-- Whether a drain report moves a fence (R117). -/
def FenceRecord.drains (f : FenceRecord) : Bool := f.state == .draining || f.state == .stuck

/-- The drain report after an entry of class `c` was removed (R107, R117): nothing while entries remain. -/
def State.drainReport (c : ClassId) (s : State) : State :=
  if !s.hasEntry c && s.fences[c].drains then
    { s.raise .fenceDone with fences := s.fences.set c s.fences[c].drain }
  else s

/-! ## Ticks (R7, R82, R83, R118, R177) -/

/-- A class record takes a tick (R7, R8): an IDLE or open one is not reached; a regulated one counts, and has
its period end (R12) or its half grant (R11) where it falls. -/
def State.tickRecord (c : ClassId) (s : State) : State :=
  let r := s.classes[c]
  if r.isRegulated then
    let n := r.counter + 1
    if n = r.active.period then s.renewPeriod c .elapsed
    else
      s.updateClass c fun r =>
        { r with
          counter := n
          credit := if r.active.halfGrantAt n then r.credit + r.active.halfGrant else r.credit }
  else s

/-- A held slot with its wait counter raised by a tick (R82). -/
def HeldSlot.waited (h : HeldSlot) : HeldSlot := { h with wait := satAdd h.wait 1 }

/-- What a tick makes of a held slot (R82, R83): while its class is UNFENCED the wait counter rises, and the forced
flag is set where the hold limit expires. -/
def State.tickHeld (s : State) (h : HeldSlot) : HeldSlot :=
  if s.fenceHolds h then { h.waited with forced := h.forced || s.classes[h.cls].expires h.waited } else h

/-- Whether a tick taken now is the expiry of slot `k`'s request (R83). -/
def State.slotExpires (s : State) (k : SlotId) : Bool :=
  (s.slots[k]).any fun h => s.fenceHolds h && s.classes[h.cls].expires h.waited

/-- The Hold Pool takes a tick (R82, R83): every held slot at once, with FORCED_RELEASE at an expiry. -/
def State.tickPool (s : State) : State :=
  let slots := tabulate fun k => (s.slots[k]).map s.tickHeld
  if (List.finRange 32).any s.slotExpires then { s.raise .forcedRelease with slots := slots }
  else { s with slots := slots }

/-- Whether a tick makes a class with this fence STUCK under a drain limit (R118). -/
def FenceRecord.sticks (limit : BitVec 16) (f : FenceRecord) : Bool :=
  f.state == .draining && limit != 0 && decide (limit.toNat ≤ (satAdd f.timer 1).toNat)

/-- What a tick makes of a class's fence (R118): a DRAINING one counts, and becomes STUCK at a non-zero drain
limit. -/
def FenceRecord.tick (limit : BitVec 16) (f : FenceRecord) : FenceRecord :=
  if f.state = .draining then
    { state := if f.sticks limit then .stuck else .draining, timer := satAdd f.timer 1 }
  else f

/-- The Fence Monitor takes a tick (R118): every fence at once, with FENCE_STUCK at a move to STUCK. -/
def State.tickFences (s : State) : State :=
  let fences := tabulate fun c => (s.fences[c]).tick s.drainLimit
  if (List.finRange 8).any fun c => s.fences[c].sticks s.drainLimit then
    { s.raise .fenceStuck with fences := fences }
  else { s with fences := fences }

/-- One taker takes a tick. -/
def State.takeTick (s : State) : TickTaker → State
  | .record c => s.tickRecord c
  | .pool => s.tickPool
  | .fenceMonitor => s.tickFences

/-- Everything a tick reaches (R177): the class records, the Hold Pool and the Fence Monitor. -/
def tickTakers : List TickTaker := (List.finRange 8).map .record ++ [.pool, .fenceMonitor]

/-- The takers of a tick, those of `order` first and in that order, each once. -/
def tickSequence (order : List TickTaker) : List TickTaker :=
  order.dedup ++ tickTakers.filter fun t => t ∉ order

/-- Whatever still owes the last tick takes it (log entry 2). -/
def State.settleTicks (s : State) : State :=
  if s.owedTicks = [] then s else { s.owedTicks.foldl State.takeTick s with owedTicks := [] }.judged

/-- A tick (R177): what still owes the last tick takes that one, the count returns to 0, and the tick is taken in
the given order by all but those of `later`, which owe it. -/
def State.makeTick (order later : List TickTaker) (s : State) : State :=
  let s := s.settleTicks
  let sequence := tickSequence order
  let taken := (sequence.filter fun t => t ∉ later).foldl State.takeTick { s with count := 0 }
  { taken with owedTicks := sequence.filter fun t => t ∈ later }.judged

/-- One taker takes the tick it owes. -/
def State.takeOwed (t : TickTaker) (s : State) : State :=
  { s.takeTick t with owedTicks := s.owedTicks.filter fun u => u != t }.judged

end Sys2Proof.Machine
end

