-- ==== Sys2Proof/Machine/Link.lean ====
section
/-! DEFINITION. What every service-link frame shares: the shifting out of the previous result (R167), the
abandoning of frames around RESET (R173), the refusals SHORT and RANGE (R164, R165) and the loading of the
response holder (R166). -/

namespace Sys2Proof.Machine

/-- Loads the response holder (R166). -/
def State.load (status : Status) (data : Bits) (s : State) : State :=
  { s with holder := { status := status, data := data } }

/-- The bits SDO carries during a frame of `n` bits (R167): the status code, the response data, then zeros. -/
def ResponseHolder.shifted (r : ResponseHolder) (n : Nat) : Bits :=
  (wordBits r.status.code ++ r.data ++ List.replicate n false).take n

/-- Shifts the previous result out during a frame of `n` bits (R167). -/
def State.shiftOut (n : Nat) (s : State) : State := { s with sdo := s.holder.shifted n }

/-- The link takes a frame: RESET is not asserted and no remnant of an SSEL assertion is awaited (R173). -/
def State.linkTakes (s : State) : Bool := !s.resetAsserted && s.receiver == .ready

/-- A frame of `n` bits with the outcome that its judgement gives it (R157): the previous result is shifted out,
and the outcome acts when the frame ends. -/
def State.onFrame (n : Nat) (outcome : State → State) (s : State) : State :=
  if s.linkTakes then outcome (s.shiftOut n) else s

/-- The refusal SHORT (R159, R164): nothing but the holder and LINK_ERROR. -/
def State.refuseShort (s : State) : State := (s.raise .linkError).load .short []

/-- The refusal PARITY (R162). -/
def State.refuseParity (s : State) : State := (s.raise .linkError).load .parity []

/-- The refusal RANGE (R165). -/
def State.refuseRange (s : State) : State := s.load .range []

/-- A command that is taken with DONE and returns no values (R166). -/
def State.answerDone (s : State) : State := s.load .done []

/-- A frame of a command with no payload: complete at twelve bits (R164). -/
def State.onCommand (rest : Bits) (outcome : State → State) (s : State) : State :=
  s.onFrame (headerLength + rest.length) outcome

/-- A frame of a command with a payload of `need` bits (R164): refused with SHORT when it is not complete, before
any range test. -/
def State.onPayload (need : Nat) (rest : Bits) (outcome : State → State) (s : State) : State :=
  s.onCommand rest fun s => if rest.length < need then s.refuseShort else outcome s

/-- A command that names a class in its operand (R160, R165). -/
def State.onClass (operand : BitVec 5) (outcome : ClassId → State → State) (s : State) : State :=
  match classOperand operand with
  | none => s.refuseRange
  | some c => outcome c s

/-- A command that names a map entry in its operand (R160, R165). -/
def State.onEntry (operand : BitVec 5) (outcome : MapId → State → State) (s : State) : State :=
  match entryOperand operand with
  | none => s.refuseRange
  | some i => outcome i s

end Sys2Proof.Machine
end

