-- ==== Sys2Proof/Machine/ClassControl.lean ====
section
/-! DEFINITION. The commands on one class: staging and reading descriptors (R28, R29, R41, R51), START, STOP and
RESTART CLASS (R34, R36, R38) and READ CLASS STATUS (R21). -/

namespace Sys2Proof.Machine

/-- Whether a class's active or staged descriptor names a lender (R51). -/
def ClassRecord.borrows (r : ClassRecord) : Bool := r.active.lender.isSome || r.staged.lender.isSome

/-- Whether a class's active or staged descriptor names class `l` as lender (R51). -/
def ClassRecord.names (r : ClassRecord) (l : ClassId) : Bool :=
  r.active.lender == some l || r.staged.lender == some l

/-- The lending validation of a descriptor for class `x` (R51): `true` refuses it. -/
def State.lendingRefuses (s : State) (x : ClassId) (d : Descriptor) : Bool :=
  match d.lender with
  | none => false
  | some l => l == x || s.classes[l].borrows || s.classes.toList.any fun r => r.names x

/-- The effect of a taken STAGE DESCRIPTOR (R29): the staged descriptor of a RUNNING class, both of an IDLE
one. -/
def ClassRecord.stage (d : Descriptor) (r : ClassRecord) : ClassRecord :=
  match r.run with
  | .running => { r with staged := d }
  | .idle => { r with staged := d, active := d }

/-- STAGE DESCRIPTOR on a named class (R28, R29): validated, then written. -/
def State.stageOn (d : Descriptor) (c : ClassId) (s : State) : State :=
  if s.lendingRefuses c d then s.load .invalid []
  else ((s.updateClass c (ClassRecord.stage d)).judged).answerDone

/-- STAGE DESCRIPTOR (R28, R29). -/
def execStageDescriptor (operand : BitVec 5) (rest : Bits) (s : State) : Result :=
  .next <| s.onPayload descriptorLength rest fun s =>
    match parseDescriptor rest with
    | none => s.refuseRange
    | some d => s.onClass operand (State.stageOn d)

/-- READ ACTIVE DESCRIPTOR (R41). -/
def execReadActiveDescriptor (operand : BitVec 5) (rest : Bits) (s : State) : Result :=
  .next <| s.onCommand rest fun s =>
    s.onClass operand fun c s => s.load .done s.classes[c].active.bits

/-- READ STAGED DESCRIPTOR (R41). -/
def execReadStagedDescriptor (operand : BitVec 5) (rest : Bits) (s : State) : Result :=
  .next <| s.onCommand rest fun s =>
    s.onClass operand fun c s => s.load .done s.classes[c].staged.bits

/-- A class record made RUNNING (R34 steps 1 to 3). -/
def ClassRecord.start (r : ClassRecord) : ClassRecord :=
  { r with run := .running, counter := 0, number := 0, credit := r.active.startCredit }

/-- START CLASS on a named class (R34). -/
def State.startOn (c : ClassId) (s : State) : State :=
  match s.classes[c].run with
  | .running => s.load .state []
  | .idle => (((s.updateClass c ClassRecord.start).startPeriod c).judged).answerDone

/-- START CLASS (R34). -/
def execStartClass (operand : BitVec 5) (rest : Bits) (s : State) : Result :=
  .next (s.onCommand rest fun s => s.onClass operand State.startOn)

/-- A class record made IDLE (R36 steps 2 to 4). -/
def ClassRecord.stop (r : ClassRecord) : ClassRecord :=
  { r with active := r.staged, run := .idle, credit := 0, counter := 0 }

/-- STOP CLASS on a named class (R36). -/
def State.stopOn (c : ClassId) (s : State) : State :=
  match s.classes[c].run with
  | .idle => s.load .state []
  | .running => (((s.report c .stop).updateClass c ClassRecord.stop).judged).answerDone

/-- STOP CLASS (R36). -/
def execStopClass (operand : BitVec 5) (rest : Bits) (s : State) : Result :=
  .next (s.onCommand rest fun s => s.onClass operand State.stopOn)

/-- RESTART CLASS on a named class (R38). -/
def State.restartOn (c : ClassId) (s : State) : State :=
  match s.classes[c].run with
  | .idle => s.load .state []
  | .running => ((s.renewPeriod c .restart).judged).answerDone

/-- RESTART CLASS (R38). -/
def execRestartClass (operand : BitVec 5) (rest : Bits) (s : State) : Result :=
  .next (s.onCommand rest fun s => s.onClass operand State.restartOn)

/-- READ CLASS STATUS (R21). -/
def execReadClassStatus (operand : BitVec 5) (rest : Bits) (s : State) : Result :=
  .next <| s.onCommand rest fun s =>
    s.onClass operand fun c s => s.load .done (s.classStatusBits c)

end Sys2Proof.Machine
end

