-- ==== Sys2Proof/Machine/Device.lean ====
section
/-! DEFINITION. The device-wide commands (R172): READ DEVICE STATUS, SET DEVICE CONTROLS, CLEAR ALERTS and CLEAR
REGULATION. -/

namespace Sys2Proof.Machine

/-- READ DEVICE STATUS (R184). -/
def execReadDeviceStatus (_operand : BitVec 5) (rest : Bits) (s : State) : Result :=
  .next (s.onCommand rest fun s => s.load .done s.deviceStatusBits)

/-- Replaces the four settings together and restarts the tick count (R178, R183). -/
def State.setControls (c : Controls) (s : State) : State :=
  { s with
    divisor := c.divisor
    drainLimit := c.drainLimit
    threshold := c.threshold
    enableMask := c.mask
    count := 0 }

/-- SET DEVICE CONTROLS (R183). -/
def execSetDeviceControls (_operand : BitVec 5) (rest : Bits) (s : State) : Result :=
  .next <| s.onPayload controlsLength rest fun s =>
    match parseControls rest with
    | none => s.refuseRange
    | some c => (s.setControls c).answerDone

/-- CLEAR ALERTS (R181). -/
def execClearAlerts (_operand : BitVec 5) (rest : Bits) (s : State) : Result :=
  .next <| s.onPayload setLength rest fun s =>
    { s with sticky := s.sticky.without (parseEventSet rest 0) }.answerDone

/-- What CLEAR REGULATION returns to its starting values (R24, R42, R66, R126, R137, R155); held and in-flight
requests, settings and events are kept (R89, R111, R172). -/
def State.clearRegulation (s : State) : State :=
  { s with
    classes := Vector.replicate 8 .reset
    map := Vector.replicate 16 .reset
    fences := Vector.replicate 8 .reset
    digests := Vector.replicate 8 0
    tallies := Vector.replicate 8 .zero
    records := []
    nextSerial := 0
    pendingGap := 0 }

/-- CLEAR REGULATION (R24, R172). -/
def execClearRegulation (_operand : BitVec 5) (rest : Bits) (s : State) : Result :=
  .next (s.onCommand rest fun s => s.clearRegulation.judged.answerDone)

end Sys2Proof.Machine
end

