-- ==== Sys2Proof/Machine/Fences.lean ====
section
/-! DEFINITION. The Fence Monitor's events: FENCE (R115), UNFENCE (R121) and the drain limit (R118). -/

namespace Sys2Proof.Machine

/-- What FENCE makes of a named class (R115). -/
def State.fenced (s : State) (c : ClassId) : FenceRecord :=
  match s.fences[c].state with
  | .unfenced => { state := if s.hasEntry c then .draining else .fenced, timer := 0 }
  | .draining => s.fences[c]
  | .fenced => s.fences[c]
  | .stuck => s.fences[c]

/-- Whether FENCE makes a class FENCED (R115, R124). -/
def State.fencesAtOnce (s : State) (c : ClassId) : Bool := s.fences[c].state == .unfenced && !s.hasEntry c

/-- FENCE over the classes a payload names, as one event (R115). -/
def State.fenceSet (named : Bits) (s : State) : State :=
  let fences := tabulate fun c => if namedIn named c then s.fenced c else s.fences[c]
  if (List.finRange 8).any fun c => namedIn named c && s.fencesAtOnce c then
    { s.raise .fenceDone with fences := fences }
  else { s with fences := fences }

/-- FENCE (R115). -/
def execFence (_operand : BitVec 5) (rest : Bits) (s : State) : Result :=
  .next (s.onPayload setLength rest fun s => (s.fenceSet rest).judged.answerDone)

/-- UNFENCE over the classes a payload names, as one event (R121). -/
def State.unfenceSet (named : Bits) (s : State) : State :=
  { s with fences := tabulate fun c => if namedIn named c then .reset else s.fences[c] }

/-- UNFENCE (R121). -/
def execUnfence (_operand : BitVec 5) (rest : Bits) (s : State) : Result :=
  .next (s.onPayload setLength rest fun s => (s.unfenceSet rest).judged.answerDone)

/-- Whether the Fence Monitor owes a tick at which class `c` becomes STUCK (R118). -/
def State.stuckDue (c : ClassId) (s : State) : Bool :=
  decide (TickTaker.fenceMonitor ∈ s.owedTicks) && s.fences[c].sticks s.drainLimit

/-- DRAIN_STUCK (R118): the Fence Monitor takes the tick it owes; nothing where class `c` does not become STUCK. -/
def execDrainStuck (c : ClassId) (s : State) : Result :=
  .next (if s.stuckDue c then s.takeOwed .fenceMonitor else s)

end Sys2Proof.Machine
end

