-- ==== Sys2Proof/Machine/RegionMap.lean ====
section
/-! DEFINITION. The Region Map: classification of a request (R55–R59) and the commands WRITE MAP ENTRY (R60, R61)
and READ MAP ENTRY (R64). -/

namespace Sys2Proof.Machine

/-- The granule of an address (R54): the address divided by 4096, rounded down. -/
def granule (a : Address) : Nat := a.toNat / 4096

/-- The range test (R55). -/
def MapEntry.rangeTest (e : MapEntry) (r : Request) : Bool :=
  decide (e.base.toNat ≤ granule r.address) && decide (granule r.address ≤ e.limit.toNat)

/-- The tag test (R56). -/
def MapEntry.tagTest (e : MapEntry) (r : Request) : Bool := (r.tag ^^^ e.tagMatch) &&& e.tagMask == 0

/-- The kind test (R57). -/
def MapEntry.kindTest (e : MapEntry) (r : Request) : Bool :=
  match e.filter with
  | .both => true
  | .read => r.kind == .read
  | .write => r.kind == .write

/-- Whether a request matches an entry (section 4.2). -/
def MapEntry.matches (e : MapEntry) (r : Request) : Bool :=
  e.valid && e.rangeTest r && e.tagTest r && e.kindTest r

/-- The class of a request (R58, R59): that of the lowest-numbered entry it matches, or class 0. -/
def State.classify (s : State) (r : Request) : ClassId :=
  match s.map.toList.find? fun e => e.matches r with
  | some e => e.cls
  | none => 0

/-- WRITE MAP ENTRY on a named entry (R61): all seven fields at once. -/
def State.writeEntry (e : MapEntry) (i : MapId) (s : State) : State :=
  { s with map := s.map.set i e }.answerDone

/-- WRITE MAP ENTRY (R60, R61). -/
def execWriteMapEntry (operand : BitVec 5) (rest : Bits) (s : State) : Result :=
  .next <| s.onPayload mapEntryLength rest fun s =>
    match parseMapEntry rest with
    | none => s.refuseRange
    | some e => s.onEntry operand (State.writeEntry e)

/-- READ MAP ENTRY (R64). -/
def execReadMapEntry (operand : BitVec 5) (rest : Bits) (s : State) : Result :=
  .next <| s.onCommand rest fun s =>
    s.onEntry operand fun i s => s.load .done s.map[i].bits

end Sys2Proof.Machine
end

