-- ==== Sys2Proof/WellFormed.lean ====
section
/-! DEFINITION. Which terms of `Instr` stand for a command or event of the part: the packets R69 lets a link
carry, and the frames R157 sorts into each row. -/

namespace Sys2Proof

/-- A request packet the link can carry (R69): 1–16 beats, an address whose low four bits are zero, and as many
data beats as the length for a WRITE, none for a READ. -/
def Request.wf (r : Request) : Bool :=
  decide (1 ≤ r.length) && decide (r.length ≤ 16) && (r.address.extractLsb' 0 4 == 0) &&
    match r.kind with
    | .read => r.data.isEmpty
    | .write => r.data.length == r.length

/-- The terms that are a frame, packet or event of their row. -/
def Instr.wf : Instr → Bool
  | .shortHeaderFrame bits => decide (1 ≤ bits.length) && decide (bits.length < headerLength)
  | .parityErrorFrame header _ => !oddOnes (wordBits header) && header != BitVec.allOnes 12
  | .unknownCommand code _ _ => !codeAssigned code
  | .requestAccept r => r.wf
  | .noOperation _ _ => true
  | .readDeviceStatus _ _ => true
  | .setDeviceControls _ _ => true
  | .clearAlerts _ _ => true
  | .stageDescriptor _ _ => true
  | .readActiveDescriptor _ _ => true
  | .readStagedDescriptor _ _ => true
  | .startClass _ _ => true
  | .stopClass _ _ => true
  | .restartClass _ _ => true
  | .readClassStatus _ _ => true
  | .writeMapEntry _ _ => true
  | .readMapEntry _ _ => true
  | .readSlot _ _ => true
  | .fence _ _ => true
  | .unfence _ _ => true
  | .readRecord _ _ => true
  | .retireRecord _ _ => true
  | .clearRegulation _ _ => true
  | .zeroBitFrame => true
  | .linkReset _ => true
  | .issue _ => true
  | .writeAck _ _ _ => true
  | .readData _ _ _ _ => true
  | .tick _ _ => true
  | .periodEnd _ => true
  | .halfGrant _ => true
  | .holdLimitExpiry _ => true
  | .drainStuck _ => true
  | .freezeAssert => true
  | .freezeRelease => true
  | .hardReset => true
  | .resetRelease _ => true
  | .mSideCanTakeRequest => true
  | .sselRemnantNegation => true

end Sys2Proof
end

