-- ==== Sys2Proof/Machine/HoldPool.lean ====
section
/-! DEFINITION. The Hold Pool's events: acceptance (R71), the judgement when the M-side can take a request (R79),
the expiry of a hold limit (R83) and READ SLOT (R90). -/

namespace Sys2Proof.Machine

/-- A slot as acceptance fills it (R71 steps 2, 3 and 5). -/
def State.freshSlot (s : State) (r : Request) : HeldSlot :=
  { request := r, cls := s.classify r, wait := 0, forced := false, creditWaited := false }

/-- The acceptance of a request into a FREE slot (R71). -/
def State.acceptInto (k : SlotId) (r : Request) (s : State) : State :=
  { s with slots := s.slots.set k (some (s.freshSlot r)), arrival := s.arrival ++ [k] }

/-- The acceptance of a request (R71): into the lowest-numbered FREE slot; a request that finds the I-side not
ready stays outside the pacer (R70, log entry 6). -/
def State.accept (r : Request) (s : State) : State :=
  if s.iSideReady then
    match s.freeSlot with
    | some k => (s.acceptInto k r).judged
    | none => s
  else s

/-- REQUEST_ACCEPT (R71). -/
def execRequestAccept (request : Request) (s : State) : Result :=
  if request.wf then .next (s.accept request) else .refused (.illFormed "REQUEST_ACCEPT")

/-- M_SIDE_CAN_TAKE_REQUEST (R69, R74, R79). -/
def execMSideCanTakeRequest (s : State) : Result :=
  .next { s with controllerReady := true }.judged

/-- Whether the pool owes a tick at which slot `k`'s request expires (R83). -/
def State.expiryDue (k : SlotId) (s : State) : Bool :=
  decide (TickTaker.pool ∈ s.owedTicks) && s.slotExpires k

/-- HOLD_LIMIT_EXPIRY (R83): the pool takes the tick it owes; nothing where no expiry of slot `k` is due. -/
def execHoldLimitExpiry (k : SlotId) (s : State) : Result :=
  .next (if s.expiryDue k then s.takeOwed .pool else s)

/-- READ SLOT (R90). -/
def execReadSlot (operand : BitVec 5) (rest : Bits) (s : State) : Result :=
  .next (s.onCommand rest fun s => s.load .done (s.slotBits (slotOperand operand)))

end Sys2Proof.Machine
end

