-- ==== Sys2Proof/Machine/InFlight.lean ====
section
/-! DEFINITION. The responses: WRITE_ACK (R100) and READ_DATA (R101, R102), each passed to the I-side unchanged
(R99). -/

namespace Sys2Proof.Machine

/-- An entry a WRITE_ACK with a tag matches (R100). -/
def Entry.matchesWrite (tag : Tag) (e : Entry) : Bool :=
  match e.flight with
  | .write => e.tag == tag
  | .read _ _ => false

/-- An entry a READ_DATA with a tag matches (R101). -/
def Entry.matchesRead (tag : Tag) (e : Entry) : Bool :=
  match e.flight with
  | .write => false
  | .read _ _ => e.tag == tag

/-- A READ entry with one more beat returned (R101). -/
def Entry.oneMore (e : Entry) : Entry :=
  match e.flight with
  | .write => e
  | .read n c => { e with flight := .read n (c + 1) }

/-- Whether an unmarked beat overruns its entry (R101, R102). -/
def Entry.full (e : Entry) : Bool :=
  match e.flight with
  | .write => false
  | .read n c => decide (n ≤ c)

/-- Whether a marked beat ends its entry at its length (R101). -/
def Entry.lastDue (e : Entry) : Bool :=
  match e.flight with
  | .write => false
  | .read n c => c + 1 == n

/-- Passes a response to the I-side (R99). -/
def State.pass (r : Response) (s : State) : State := { s with iSideOut := some r }

/-- Removes the oldest entry that a test picks (R97). -/
def State.dropEntry (p : Entry → Bool) (s : State) : State := { s with inFlight := s.inFlight.eraseP p }

/-- Counts one more beat against the oldest entry that a test picks (R101). -/
def State.countBeat (p : Entry → Bool) (s : State) : State :=
  { s with inFlight := s.inFlight.replaceF fun e => if p e then some e.oneMore else none }

/-- What a WRITE_ACK makes of its match (R100, R104, R105). -/
def State.matchWriteAck (tag : Tag) (status : ReplyStatus) (s : State) : State :=
  match s.inFlight.find? (Entry.matchesWrite tag) with
  | none => s.raise .strayResponse
  | some e => ((s.dropEntry (Entry.matchesWrite tag)).countFault e.cls status).drainReport e.cls

/-- WRITE_ACK (R100): its last marker has no bearing on the match. -/
def execWriteAck (tag : Tag) (status : ReplyStatus) (last : Bool) (s : State) : Result :=
  .next <|
    if s.mSideReady then ((s.pass (.writeAck tag status last)).matchWriteAck tag status).judged else s

/-- A marked beat matched to an entry (R101, R102): the entry leaves, with a shape error where the beats differ
from the length. -/
def State.lastBeat (tag : Tag) (e : Entry) (s : State) : State :=
  let s := s.dropEntry (Entry.matchesRead tag)
  if e.lastDue then s else s.raise .shapeError

/-- An unmarked beat matched to an entry (R101, R102): counted, or an overrun. -/
def State.innerBeat (tag : Tag) (e : Entry) (s : State) : State :=
  if e.full then s.raise .shapeError else s.countBeat (Entry.matchesRead tag)

/-- What a READ_DATA makes of its match (R101, R104, R105). -/
def State.matchReadData (tag : Tag) (status : ReplyStatus) (last : Bool) (s : State) : State :=
  match s.inFlight.find? (Entry.matchesRead tag) with
  | none => s.raise .strayResponse
  | some e =>
    if last then ((s.lastBeat tag e).countFault e.cls status).drainReport e.cls
    else (s.innerBeat tag e).countFault e.cls status

/-- READ_DATA (R101). -/
def execReadData (tag : Tag) (status : ReplyStatus) (beat : BitVec 128) (last : Bool) (s : State) : Result :=
  .next <|
    if s.mSideReady then ((s.pass (.readData tag status beat last)).matchReadData tag status last).judged else s

end Sys2Proof.Machine
end

