-- ==== Sys2Proof/Machine/Issue.lean ====
section
/-! DEFINITION. ISSUE (R92, R93, R95). -/

namespace Sys2Proof.Machine

/-- The issue of a chosen slot, by the means it met the credit condition (R92, R95). -/
def State.issueChosen (k : SlotId) (s : State) : State :=
  match s.slots[k] with
  | none => s
  | some h =>
    match s.creditMeans h with
    | none => s
    | some m => s.issueSlot k h m

/-- The issue, when the M-side can take a request and an eligible request stands (R92). Whether or not one is
issued, a ready memory controller goes on being ready or ceases to be, as `staysReady` says (R69; log entry 4). -/
def State.issue (staysReady : Bool) (s : State) : State :=
  if s.mSideCanTake then
    match s.choice with
    | none => { s.judge with controllerReady := staysReady }
    | some k => { s.judge.issueChosen k with controllerReady := staysReady }.judged
  else { s with controllerReady := s.controllerReady && staysReady }

/-- ISSUE (R92, R95). -/
def execIssue (staysReady : Bool) (s : State) : Result := .next (s.issue staysReady)

end Sys2Proof.Machine
end

