-- ==== Sys2Proof/Machine/LinkFrames.lean ====
section
/-! DEFINITION. The frames that reach no block but the Service Link (R157, R158–R163, R171) and the end of an
SSEL remnant (R173). -/

namespace Sys2Proof.Machine

/-- NO OPERATION (R171). -/
def execNoOperation (_operand : BitVec 5) (rest : Bits) (s : State) : Result :=
  .next (s.onCommand rest State.answerDone)

/-- A frame with no bits (R158): ignored. -/
def execZeroBitFrame (s : State) : Result := .next s

/-- A frame of 1 to 11 bits (R159): refused with SHORT. -/
def execShortHeaderFrame (bits : Bits) (s : State) : Result :=
  if (Instr.shortHeaderFrame bits).wf then .next (s.onFrame bits.length State.refuseShort)
  else .refused (.illFormed "SHORT_HEADER_FRAME")

/-- A link reset (R161): the holder becomes EMPTY. -/
def execLinkReset (rest : Bits) (s : State) : Result :=
  .next (s.onCommand rest (State.load .empty []))

/-- A header with an even count of ones (R162): refused with PARITY. -/
def execParityErrorFrame (header : BitVec 12) (rest : Bits) (s : State) : Result :=
  if (Instr.parityErrorFrame header rest).wf then .next (s.onCommand rest State.refuseParity)
  else .refused (.illFormed "PARITY_ERROR_FRAME")

/-- An unassigned command code (R163): refused with UNKNOWN. -/
def execUnknownCommand (code : BitVec 6) (operand : BitVec 5) (rest : Bits) (s : State) : Result :=
  if (Instr.unknownCommand code operand rest).wf then .next (s.onCommand rest (State.load .unknown []))
  else .refused (.illFormed "UNKNOWN_COMMAND")

/-- The negation of an SSEL assertion that began before the release of RESET (R173): the receiver is ready for
the next frame, and nothing is taken. -/
def execSselRemnantNegation (s : State) : Result :=
  .next (if s.resetAsserted then s else { s with receiver := .ready })

end Sys2Proof.Machine
end

