-- ==== Sys2Proof/Machine/Reports.lean ====
section
/-! DEFINITION. Reading and retiring period records (R149, R150). -/

namespace Sys2Proof.Machine

/-- READ RECORD (R149). -/
def execReadRecord (_operand : BitVec 5) (rest : Bits) (s : State) : Result :=
  .next <| s.onCommand rest fun s =>
    match s.records with
    | [] => s.load .queueEmpty []
    | p :: _ => s.load .done p.bits

/-- The retirement of the oldest record by its serial (R150). -/
def State.retire (serial : BitVec 16) (s : State) : State :=
  match s.records with
  | [] => s.load .queueEmpty []
  | p :: younger => if p.serial = serial then { s with records := younger }.answerDone else s.load .mismatch []

/-- RETIRE RECORD (R150). -/
def execRetireRecord (_operand : BitVec 5) (rest : Bits) (s : State) : Result :=
  .next (s.onPayload serialLength rest (State.retire (parseSerial rest)))

end Sys2Proof.Machine
end

