-- ==== Sys2Proof/Machine/Reset.lean ====
section
/-! DEFINITION. The RESET pin: HARD_RESET (R23 and its neighbours) and RESET_RELEASE (R91, R173, R178). -/

namespace Sys2Proof.Machine

/-- The state while RESET is asserted: every block at its hard-reset value. The FREEZE input is followed at all
times (R185); the queue of commands and the model's count of free values are not the part's. -/
def State.hardReset (s : State) : State :=
  { State.reset with
    resetAsserted := true
    freeze := s.freeze
    refclkTicks := s.refclkTicks
    pending := s.pending }

/-- HARD_RESET (R23, R42, R65, R91, R110, R125, R137, R154, R173, R185). -/
def execHardReset (s : State) : Result := .next s.hardReset

/-- RESET_RELEASE (R91, R173, R178): the count restarts, and an SSEL still asserted is waited out. -/
def execResetRelease (selected : Bool) (s : State) : Result :=
  .next <|
    if s.resetAsserted then
      { s with
        resetAsserted := false
        count := 0
        receiver := if selected then .awaitingNegation else .ready }.judged
    else s

end Sys2Proof.Machine
end

