-- ==== Sys2Proof/Config.lean ====
section
/-! DEFINITION. What the spec leaves open to each run: the order in which the blocks take a tick that the
REFCLK count makes (log entry 3). -/

namespace Sys2Proof

/-- The order in which the class records, hold slots and fences take the `n`-th tick made by the REFCLK count: a
FREE VALUE (log entry 3). The spec gives no order among them (R83: "either may take it first"; R148: "in
either order"), so nothing constrains it. -/
opaque Config.tickOrder : Nat → List TickTaker

end Sys2Proof
end

