-- ==== Sys2Proof/Machine/Time.lean ====
section
/-! DEFINITION. The Time Base: TICK (R177), the period end and half grant of one class (R11, R12), FREEZE (R178,
R179) and the REFCLK period that passes while no command waits (R177). -/

namespace Sys2Proof.Machine

/-- No tick comes while RESET or FREEZE is asserted (R177, R179). -/
def State.ticksCome (s : State) : Bool := !s.resetAsserted && !s.freeze

/-- TICK (R177): the REFCLK periods left of the tick interval pass, and the tick comes. -/
def execTick (order later : List TickTaker) (s : State) : Result :=
  .next (if s.ticksCome then s.makeTick order later else s)

/-- One REFCLK period (R177): no tick is saved up over it, so what still owes the last one takes it first; then the
count rises, and at the divisor a tick comes, taken in an order that is a free value (log entry 3). -/
def State.refclk (s : State) : State :=
  if s.ticksCome then
    if s.count + 1 < s.divisor.toNat then { s.settleTicks with count := s.count + 1 }
    else { s.makeTick (Config.tickOrder s.refclkTicks) [] with refclkTicks := s.refclkTicks + 1 }
  else s

/-- Whether the record of class `c` owes a tick and is regulated, so that the tick counts (R7). -/
def State.owesCountedTick (c : ClassId) (s : State) : Bool :=
  decide (TickTaker.record c ∈ s.owedTicks) && s.classes[c].isRegulated

/-- Whether the record of class `c` owes a tick that is its natural period end (R7). -/
def State.periodEndDue (c : ClassId) (s : State) : Bool :=
  s.owesCountedTick c && s.classes[c].counter + 1 == s.classes[c].active.period

/-- PERIOD_END (R12): the record takes the tick it owes; nothing where no period end is due. -/
def execPeriodEnd (c : ClassId) (s : State) : Result :=
  .next (if s.periodEndDue c then s.takeOwed (.record c) else s)

/-- Whether the record of class `c` owes the tick of its half grant (R11). -/
def State.halfGrantDue (c : ClassId) (s : State) : Bool :=
  s.owesCountedTick c && s.classes[c].active.halfGrantAt (s.classes[c].counter + 1)

/-- HALF_GRANT (R11): the record takes the tick it owes; nothing where no half grant is due. -/
def execHalfGrant (c : ClassId) (s : State) : Result :=
  .next (if s.halfGrantDue c then s.takeOwed (.record c) else s)

/-- FREEZE_ASSERT (R178, R179): a tick that came before is taken in full; then the count stands at 0. -/
def execFreezeAssert (s : State) : Result :=
  .next (if s.freeze then s else { s.settleTicks with freeze := true, count := 0 })

/-- FREEZE_RELEASE (R178): counting restarts from 0. -/
def execFreezeRelease (s : State) : Result :=
  .next (if s.freeze then { s with freeze := false, count := 0 } else s)

end Sys2Proof.Machine
end

