-- ==== Sys2Proof/Machine/Dispatch.lean ====
section
/-! DEFINITION. The dispatch: one arm for each command and event of spec/opcode_table.json. -/

namespace Sys2Proof.Machine

/-- The effect of a command or event on everything but the queue of waiting commands. -/
def exec (i : Instr) (s : State) : Host.Outcome State Fault Refusal :=
  match i with
  | .noOperation operand rest => Sys2Proof.Machine.execNoOperation operand rest s
  | .readDeviceStatus operand rest => Sys2Proof.Machine.execReadDeviceStatus operand rest s
  | .setDeviceControls operand rest => Sys2Proof.Machine.execSetDeviceControls operand rest s
  | .clearAlerts operand rest => Sys2Proof.Machine.execClearAlerts operand rest s
  | .stageDescriptor operand rest => Sys2Proof.Machine.execStageDescriptor operand rest s
  | .readActiveDescriptor operand rest => Sys2Proof.Machine.execReadActiveDescriptor operand rest s
  | .readStagedDescriptor operand rest => Sys2Proof.Machine.execReadStagedDescriptor operand rest s
  | .startClass operand rest => Sys2Proof.Machine.execStartClass operand rest s
  | .stopClass operand rest => Sys2Proof.Machine.execStopClass operand rest s
  | .restartClass operand rest => Sys2Proof.Machine.execRestartClass operand rest s
  | .readClassStatus operand rest => Sys2Proof.Machine.execReadClassStatus operand rest s
  | .writeMapEntry operand rest => Sys2Proof.Machine.execWriteMapEntry operand rest s
  | .readMapEntry operand rest => Sys2Proof.Machine.execReadMapEntry operand rest s
  | .readSlot operand rest => Sys2Proof.Machine.execReadSlot operand rest s
  | .fence operand rest => Sys2Proof.Machine.execFence operand rest s
  | .unfence operand rest => Sys2Proof.Machine.execUnfence operand rest s
  | .readRecord operand rest => Sys2Proof.Machine.execReadRecord operand rest s
  | .retireRecord operand rest => Sys2Proof.Machine.execRetireRecord operand rest s
  | .clearRegulation operand rest => Sys2Proof.Machine.execClearRegulation operand rest s
  | .zeroBitFrame => Sys2Proof.Machine.execZeroBitFrame s
  | .shortHeaderFrame bits => Sys2Proof.Machine.execShortHeaderFrame bits s
  | .linkReset rest => Sys2Proof.Machine.execLinkReset rest s
  | .parityErrorFrame header rest => Sys2Proof.Machine.execParityErrorFrame header rest s
  | .unknownCommand code operand rest => Sys2Proof.Machine.execUnknownCommand code operand rest s
  | .requestAccept request => Sys2Proof.Machine.execRequestAccept request s
  | .issue staysReady => Sys2Proof.Machine.execIssue staysReady s
  | .writeAck tag status last => Sys2Proof.Machine.execWriteAck tag status last s
  | .readData tag status beat last => Sys2Proof.Machine.execReadData tag status beat last s
  | .tick order later => Sys2Proof.Machine.execTick order later s
  | .periodEnd c => Sys2Proof.Machine.execPeriodEnd c s
  | .halfGrant c => Sys2Proof.Machine.execHalfGrant c s
  | .holdLimitExpiry k => Sys2Proof.Machine.execHoldLimitExpiry k s
  | .drainStuck c => Sys2Proof.Machine.execDrainStuck c s
  | .freezeAssert => Sys2Proof.Machine.execFreezeAssert s
  | .freezeRelease => Sys2Proof.Machine.execFreezeRelease s
  | .hardReset => Sys2Proof.Machine.execHardReset s
  | .resetRelease selected => Sys2Proof.Machine.execResetRelease selected s
  | .mSideCanTakeRequest => Sys2Proof.Machine.execMSideCanTakeRequest s
  | .sselRemnantNegation => Sys2Proof.Machine.execSselRemnantNegation s

end Sys2Proof.Machine
end

