-- ==== Sys2Proof/Machine/Step.lean ====
section
/-! DEFINITION. One step: the command at the front of the queue, or a REFCLK period when none waits. -/

namespace Sys2Proof.Machine

/-- One step. With a command waiting, the one at the front is executed with the rest of the queue; with none, one
REFCLK period passes (R177; log entry 1). -/
def step (s : State) : Host.Outcome State Fault Refusal :=
  match s.pending with
  | [] => .next s.refclk
  | c :: rest => exec c { s with pending := rest }

/-- The state with the frame whose bits a word holds put at the front of its queue, as the row R157 reads it as;
unchanged for a word of no bits (`decodeTableWord`). -/
def State.withFetchWord (s : State) (nbits w : Nat) : State :=
  match decodeTableWord nbits w with
  | none => s
  | some c => { s with pending := c :: s.pending }

end Sys2Proof.Machine
end

