-- ==== Sys2Proof/Safety.lean ====
section
/-! DEFINITION. What a sound state is: the laws the manual gives each block's state, in the terms the claims use. -/

namespace Sys2Proof.Machine

/-- A class record within its laws: R6 (credit bounds, and the opening half of a SPLIT budget until its half
grant), R7 (the counter below the period), R3, R5 and R27 (an IDLE or open class's fixed values). -/
def ClassRecord.Sound (r : ClassRecord) : Prop :=
  match r.kind with
  | .idle => r.credit = 0 ∧ r.counter = 0 ∧ r.staged = r.active
  | .openClass => r.credit = 0 ∧ r.counter = 0
  | .regulated =>
    -15 ≤ r.credit ∧ r.credit ≤ r.active.budget.toNat ∧ r.counter.toNat < r.active.period.toNat
      ∧ (r.active.mode = .split → 2 ≤ r.active.period.toNat → r.counter.toNat < r.active.period.toNat / 2 →
          r.credit ≤ (r.active.budget.toNat + 1) / 2)

/-- Every class record is within its laws (R6, R7, R27). -/
def State.ClassesSound (s : State) : Prop := ∀ c : ClassId, s.classes[c].Sound

/-- The lending law (R51): no descriptor names its own class as lender, and no lender's descriptors name a
lender. -/
def State.LendingSound (s : State) : Prop :=
  ∀ c l : ClassId, s.classes[c].names l → l ≠ c ∧ s.classes[l].borrows = false

/-- Every map entry has a well-formed range (R60). -/
def State.MapSound (s : State) : Prop := ∀ i : MapId, s.map[i].base.toNat ≤ s.map[i].limit.toNat

/-- The Hold Pool's laws: the arrival order lists each HELD slot once and no other (R68), and every held request
is a packet the link carries (R67, R69). -/
def State.PoolSound (s : State) : Prop :=
  s.arrival.Nodup ∧ (∀ k : SlotId, k ∈ s.arrival ↔ s.slots[k].isSome)
    ∧ ∀ (k : SlotId) (h : HeldSlot), s.slots[k] = some h → h.request.wf

/-- An in-flight entry's fields are in their ranges (R97, R101). -/
def Entry.Sound (e : Entry) : Prop :=
  match e.flight with
  | .write => True
  | .read n c => 1 ≤ n ∧ n ≤ 16 ∧ c ≤ n

/-- The In-Flight Table's laws (R97, R98). -/
def State.FlightSound (s : State) : Prop :=
  s.inFlight.length ≤ inFlightCapacity ∧ ∀ e ∈ s.inFlight, e.Sound

/-- A class's fence agrees with its in-flight entries (R113, R114): UNFENCED has timer 0, FENCED no entry, DRAINING
and STUCK at least one. -/
def State.FencesSound (s : State) : Prop :=
  ∀ c : ClassId,
    match s.fences[c].state with
    | .unfenced => s.fences[c].timer = 0
    | .fenced => s.hasEntry c = false
    | .draining => s.hasEntry c = true
    | .stuck => s.hasEntry c = true

/-- The Report Queue's laws (R145): at most 64 records, whose serials run on by one up to next serial, and no gap
field of 0 (R143). -/
def State.QueueSound (s : State) : Prop :=
  s.records.length ≤ queueCapacity
    ∧ (∀ (i : Nat) (p : PeriodRecord), s.records[i]? = some p →
        p.serial + BitVec.ofNat 16 (s.records.length - i) = s.nextSerial)
    ∧ ∀ p ∈ s.records, p.gap ≠ some 0

/-- The settings are in their ranges and the tick count is below the divisor (R177, R183). -/
def State.SettingsSound (s : State) : Prop :=
  16 ≤ s.divisor.toNat ∧ 1 ≤ s.threshold.toNat ∧ s.threshold.toNat ≤ 64 ∧ s.count < s.divisor.toNat

/-- Response data stands with DONE alone (R166). -/
def State.HolderSound (s : State) : Prop := s.holder.status = .done ∨ s.holder.data = []

/-- While FREEZE is asserted the count stands at 0 and no tick is still to be taken (R179). -/
def State.FreezeSound (s : State) : Prop := s.freeze → s.count = 0 ∧ s.owedTicks = []

/-- A tick is owed once by each taker at most, and only until the next REFCLK period passes (R177: "nothing is saved
up for later"). -/
def State.OwedSound (s : State) : Prop := s.owedTicks.Nodup ∧ (s.owedTicks ≠ [] → s.count = 0)

/-- While RESET is asserted every block holds its hard-reset values (R23, R42, R65, R91, R110, R125, R137, R154,
R166, R185): nothing but the input pins and what is the model's own differs from the state after reset. -/
def State.ResetSound (s : State) : Prop :=
  s.resetAsserted →
    { s with
      resetAsserted := false
      freeze := false
      controllerReady := false
      refclkTicks := 0
      pending := [] } = State.reset

/-- Every law together. -/
structure State.Sound (s : State) : Prop where
  classes  : s.ClassesSound
  lending  : s.LendingSound
  map      : s.MapSound
  pool     : s.PoolSound
  flight   : s.FlightSound
  fences   : s.FencesSound
  queue    : s.QueueSound
  settings : s.SettingsSound
  holder   : s.HolderSound
  freeze   : s.FreezeSound
  owed     : s.OwedSound
  reset    : s.ResetSound

/-- The state after a frame of `n` bits that does nothing but answer (R166, R167): SDO carried the previous
result's status code and data, then zeros, and the holder has the new result. -/
def State.answered (s : State) (n : Nat) (status : Status) (data : Bits) : State :=
  { s with
    sdo := (wordBits s.holder.status.code ++ s.holder.data ++ List.replicate n false).take n
    holder := { status := status, data := data } }

/-! ## What a tick leaves, block by block -/

/-- A class record after a tick (R7, R8, R11, R12): an IDLE or open class is not reached. -/
def ClassRecord.afterTick (r : ClassRecord) : ClassRecord :=
  if r.run = .idle ∨ r.active.period = 0 then r
  else if r.counter + 1 = r.active.period then
    { r with
      active := r.staged
      number := r.number + 1
      counter := 0
      credit :=
        if r.staged.period = 0 then 0
        else if r.staged.mode = .split ∧ r.staged.period ≠ 1 then
          (((r.staged.budget.toNat + 1) / 2 : Nat) : Int) + min r.credit 0
        else (r.staged.budget.toNat : Int) + min r.credit 0 }
  else
    { r with
      counter := r.counter + 1
      credit :=
        if r.active.mode = .split ∧ 2 ≤ r.active.period.toNat
            ∧ (r.counter + 1).toNat = r.active.period.toNat / 2 then
          r.credit + ((r.active.budget.toNat / 2 : Nat) : Int)
        else r.credit }

/-- Whether a tick is the natural period end of a class with this record (R7). -/
def ClassRecord.endsAtTick (r : ClassRecord) : Bool :=
  r.run == .running && r.active.period != 0 && r.counter + 1 == r.active.period

/-- Whether a tick is the expiry of a held request whose class has this fence, and this record as the Hold Pool finds
it (R83). -/
def HeldSlot.expiresAtTick (f : FenceRecord) (r : ClassRecord) (h : HeldSlot) : Bool :=
  f.state == .unfenced && r.run == .running && r.active.period != 0 && r.active.holdLimit != 0
    && decide (r.active.holdLimit.toNat ≤ min (h.wait.toNat + 1) 255) && !h.forced

/-- A held request after a tick (R82, R83). -/
def HeldSlot.afterTick (f : FenceRecord) (r : ClassRecord) (h : HeldSlot) : HeldSlot :=
  if f.state = .unfenced then
    { h with
      wait := BitVec.ofNat 8 (min (h.wait.toNat + 1) 255)
      forced := h.forced || h.expiresAtTick f r }
  else h

/-- Whether a tick makes a class with this fence STUCK (R118). -/
def FenceRecord.sticksAtTick (limit : BitVec 16) (f : FenceRecord) : Bool :=
  f.state == .draining && limit != 0 && decide (limit.toNat ≤ min (f.timer.toNat + 1) 65535)

/-- A fence after a tick (R118). -/
def FenceRecord.afterTick (limit : BitVec 16) (f : FenceRecord) : FenceRecord :=
  if f.state = .draining then
    { state := if f.sticksAtTick limit then .stuck else .draining
      timer := BitVec.ofNat 16 (min (f.timer.toNat + 1) 65535) }
  else f

/-- The ELAPSED facts that class `c` hands over at a period end that comes with a tick (R12 step 1, R142). -/
def State.elapsedFacts (s : State) (c : ClassId) : PeriodFacts :=
  { cls := c
    number := s.classes[c].number
    cause := .elapsed
    tally := s.tallies[c]
    debt := (min s.classes[c].credit 0).natAbs
    adopted := decide (s.classes[c].staged ≠ s.classes[c].active)
    digest := if s.classes[c].active.signing then some s.digests[c] else none }

/-- The records handed over when `taken` take a tick: one for each reporting class whose period ends, in the order
of `taken` (R148). -/
def State.elapsedRecords (s : State) (taken : List TickTaker) : List PeriodFacts :=
  taken.filterMap fun t =>
    match t with
    | .record c =>
      if s.classes[c].endsAtTick && s.classes[c].active.reporting then some (s.elapsedFacts c) else none
    | .pool => none
    | .fenceMonitor => none

/-- The record of a class once those of `taken` have taken a tick. -/
def State.recordAfter (s : State) (taken : List TickTaker) (c : ClassId) : ClassRecord :=
  if TickTaker.record c ∈ taken then s.classes[c].afterTick else s.classes[c]

/-- The record of a class as the Hold Pool finds it when it takes the tick (R83): after those that take it first. -/
def State.recordFound (s : State) (taken : List TickTaker) (c : ClassId) : ClassRecord :=
  s.recordAfter (taken.takeWhile fun t => t != .pool) c

/-- The state after the blocks named in `taken`, in that order, have taken a tick, before the judgement that follows:
each class record, tally and digest, each held request and each fence by its own rule, the records handed over one
by one, and the events raised. -/
def State.afterTick (s : State) (taken : List TickTaker) : State :=
  let ended (c : ClassId) : Bool := decide (TickTaker.record c ∈ taken) && s.classes[c].endsAtTick
  let expires (h : HeldSlot) : Bool :=
    decide (TickTaker.pool ∈ taken) && h.expiresAtTick s.fences[h.cls] (s.recordFound taken h.cls)
  let sticks (c : ClassId) : Bool :=
    decide (TickTaker.fenceMonitor ∈ taken) && s.fences[c].sticksAtTick s.drainLimit
  let queue : State := (s.elapsedRecords taken).foldl (fun q p => q.handOver p) s
  { s with
    classes := tabulate (s.recordAfter taken)
    tallies := tabulate fun c => if ended c then .zero else s.tallies[c]
    digests := tabulate fun c => if ended c then s.classes[c].staged.seed else s.digests[c]
    slots :=
      if TickTaker.pool ∈ taken then
        tabulate fun k => (s.slots[k]).map fun h => h.afterTick s.fences[h.cls] (s.recordFound taken h.cls)
      else s.slots
    fences :=
      if TickTaker.fenceMonitor ∈ taken then tabulate fun c => (s.fences[c]).afterTick s.drainLimit else s.fences
    records := queue.records
    nextSerial := queue.nextSerial
    pendingGap := queue.pendingGap
    sticky :=
      { queue.sticky with
        forcedRelease := s.sticky.forcedRelease || (List.finRange 32).any fun k => (s.slots[k]).any expires
        fenceStuck := s.sticky.fenceStuck || (List.finRange 8).any sticks } }

/-- The state once the blocks that still owe the last tick have taken it, in the order in which they are listed (log
entry 2). -/
def State.settled (s : State) : State :=
  if s.owedTicks = [] then s else { s.afterTick s.owedTicks with owedTicks := [] }.judged

end Sys2Proof.Machine
end

