-- ==== Sys2Proof/Certificates/Slice0/Obligations.lean ====
section
/-! DEFINITION. The statements about the pacer that are left to the provers. Every statement speaks of `exec` or
`step` on every state that meets its hypotheses; a next state written as an update of `s` is its own frame: whatever
the update does not name is unchanged. `State.judged` at the end of an update is the judgement of R74 and R79, whose
content `JudgementSetsCreditWaited` states; `State.afterTick` and `State.settled` write out what a tick leaves. -/

open Sys2Proof Sys2Proof.Machine

/-! ## The queue of commands and the frames of the service link -/

/-- A step runs the command at the front of the queue with the rest of the queue (the model's form of R170: the
commands and events are taken one after another); so a frame given as a word runs as the row its bits are read as. -/
def Obligations.StepRunsFrontCommand : Prop :=
  (∀ (s : State) (c : Instr) (rest : List Instr), s.pending = c :: rest →
      step s = exec c { s with pending := rest })
    ∧ ∀ (s : State) (nbits w : Nat) (c : Instr), decodeTableWord nbits w = some c →
        step (s.withFetchWord nbits w) = exec c s

/-- With no command waiting a REFCLK period passes (R177): while RESET or FREEZE is asserted nothing changes; otherwise
what still owes the last tick takes it before anything else, then the count rises below the divisor, and at the
divisor a tick comes, taken in an order that nothing fixes. That this is what an empty queue means is the model's
choice (log entry 1), as are owed ticks (log entry 2) and the free order (log entry 3). -/
def Obligations.EmptyQueueIsOneRefclkPeriod : Prop :=
  ∀ s : State, s.pending = [] →
    (s.resetAsserted = true ∨ s.freeze = true → step s = .next s)
      ∧ (s.resetAsserted = false → s.freeze = false → s.owedTicks.Nodup → s.count + 1 < s.divisor.toNat →
          step s = .next { s.settled with count := s.count + 1 })
      ∧ (s.resetAsserted = false → s.freeze = false → s.divisor.toNat ≤ s.count + 1 →
          ∃ (order : List TickTaker) (t : State),
            exec (.tick order []) s = .next t ∧ step s = .next { t with refclkTicks := s.refclkTicks + 1 })

/-- Reading the bits of a frame and spelling a frame's row agree, with every operand and every further bit (R157,
R160, R187): the frame a well-formed row stands for is read as that row. -/
def Obligations.FrameBitsReadBack : Prop :=
  ∀ (i : Instr) (bits : Bits), i.wf = true → frameBits i = some bits → frameCommand bits = i

/-- Every list of bits is the frame of the well-formed row it is read as (R157); and a frame given as a word, its first
bit sent the most significant (R186), is read as the row of its bits. That a word stands for a frame is the model's
choice (log entry 18). -/
def Obligations.EveryFrameIsARow : Prop :=
  ∀ bits : Bits,
    (frameCommand bits).wf = true ∧ frameBits (frameCommand bits) = some bits
      ∧ (bits ≠ [] → decodeTableWord bits.length (bitsNat bits) = some (frameCommand bits))

/-- The frames that reach no block but the Service Link: a frame with no bits changes nothing; NO OPERATION, a link
reset and an unassigned code change only what every answered frame changes; a short header and a bad parity raise
LINK_ERROR too (R158, R159, R161, R162, R163, R171). -/
def Obligations.LinkFramesReachOnlyTheLink : Prop :=
  ∀ s : State, s.resetAsserted = false → s.receiver = .ready →
    exec .zeroBitFrame s = .next s
      ∧ (∀ (o : BitVec 5) (r : Bits), exec (.noOperation o r) s = .next (s.answered (12 + r.length) .done []))
      ∧ (∀ r : Bits, exec (.linkReset r) s = .next (s.answered (12 + r.length) .empty []))
      ∧ (∀ (c : BitVec 6) (o : BitVec 5) (r : Bits),
          c.toNat ∉ [0x00, 0x01, 0x02, 0x03, 0x08, 0x09, 0x0A, 0x0C, 0x0D, 0x0E, 0x0F, 0x10, 0x11, 0x18, 0x20, 0x21,
            0x28, 0x29, 0x3C] →
          exec (.unknownCommand c o r) s = .next (s.answered (12 + r.length) .unknown []))
      ∧ (∀ (h : BitVec 12) (r : Bits), oddOnes (wordBits h) = false → h ≠ BitVec.allOnes 12 →
          exec (.parityErrorFrame h r) s
            = .next { s.answered (12 + r.length) .parity [] with sticky := { s.sticky with linkError := true } })
      ∧ (∀ b : Bits, 1 ≤ b.length → b.length ≤ 11 →
          exec (.shortHeaderFrame b) s
            = .next { s.answered b.length .short [] with sticky := { s.sticky with linkError := true } })

/-- Every well-formed command and event answers a next state, on every state; a term that no frame or packet of its
row can be is refused by name (the refusal is the model's own: log entry 7). -/
def Obligations.WellFormedTermsComplete : Prop :=
  ∀ (i : Instr) (s : State),
    (i.wf = true → ∃ t : State, exec i s = .next t)
      ∧ (i.wf = false → ∃ name : String, exec i s = .refused (.illFormed name))

/-- While RESET is asserted, and while the link waits for an SSEL remnant to end, no frame is taken and nothing
changes (R173). -/
def Obligations.UnreadyLinkTakesNothing : Prop :=
  ∀ (i : Instr) (bits : Bits) (s : State), i.wf = true → frameBits i = some bits →
    (s.resetAsserted = true ∨ s.receiver = .awaitingNegation) → exec i s = .next s

/-- The refusals SHORT and RANGE that the frame alone decides: a payload that is not complete is refused with SHORT
and LINK_ERROR, whatever the operand (R164); then an operand that names no class or no map entry is refused with
RANGE (R160, R165). Nothing else changes. -/
def Obligations.IncompleteAndOutOfRangeFramesRefused : Prop :=
  ∀ (s : State) (o : BitVec 5) (r : Bits), s.resetAsserted = false → s.receiver = .ready →
    let short : State :=
      { s.answered (12 + r.length) .short [] with sticky := { s.sticky with linkError := true } }
    let range : State := s.answered (12 + r.length) .range []
    (r.length < 47 → exec (.setDeviceControls o r) s = .next short)
      ∧ (r.length < 8 → exec (.clearAlerts o r) s = .next short)
      ∧ (r.length < 82 → exec (.stageDescriptor o r) s = .next short)
      ∧ (r.length < 74 → exec (.writeMapEntry o r) s = .next short)
      ∧ (r.length < 8 → exec (.fence o r) s = .next short)
      ∧ (r.length < 8 → exec (.unfence o r) s = .next short)
      ∧ (r.length < 16 → exec (.retireRecord o r) s = .next short)
      ∧ (8 ≤ o.toNat →
          exec (.startClass o r) s = .next range ∧ exec (.stopClass o r) s = .next range
            ∧ exec (.restartClass o r) s = .next range ∧ exec (.readClassStatus o r) s = .next range
            ∧ exec (.readActiveDescriptor o r) s = .next range
            ∧ exec (.readStagedDescriptor o r) s = .next range
            ∧ (82 ≤ r.length → exec (.stageDescriptor o r) s = .next range))
      ∧ (16 ≤ o.toNat →
          exec (.readMapEntry o r) s = .next range
            ∧ (74 ≤ r.length → exec (.writeMapEntry o r) s = .next range))

/-- The reads answer DONE with the response data of the state standing then, and change nothing else (R168). -/
def Obligations.ReadsCaptureAndChangeNothing : Prop :=
  ∀ (s : State) (o : BitVec 5) (r : Bits), s.resetAsserted = false → s.receiver = .ready →
    let answer (data : Bits) : Host.Outcome State Fault Refusal := .next (s.answered (12 + r.length) .done data)
    exec (.readDeviceStatus o r) s = answer s.deviceStatusBits
      ∧ (∀ k : SlotId, o.toNat = k.val → exec (.readSlot o r) s = answer (s.slotBits k))
      ∧ (∀ c : ClassId, o.toNat = c.val →
          exec (.readClassStatus o r) s = answer (s.classStatusBits c)
            ∧ exec (.readActiveDescriptor o r) s = answer s.classes[c].active.bits
            ∧ exec (.readStagedDescriptor o r) s = answer s.classes[c].staged.bits)
      ∧ ∀ i : MapId, o.toNat = i.val → exec (.readMapEntry o r) s = answer s.map[i].bits

/-- The bits SDO carries in a frame of every row (R167): as many as the frame, first the four status bits of the
previous result, with the codes of R187, then its response data, then zeros. -/
def Obligations.ShiftedBitsAreTheHolders : Prop :=
  (∀ (i : Instr) (bits : Bits) (s : State), i.wf = true → frameBits i = some bits → bits ≠ [] →
      s.resetAsserted = false → s.receiver = .ready →
        ∃ t : State, exec i s = .next t ∧ t.sdo.length = bits.length
          ∧ ∀ n : Nat, n < bits.length →
              t.sdo.getD n false
                = if n < 4 then s.holder.status.code.getMsbD n else s.holder.data.getD (n - 4) false)
    ∧ ([.done, .empty, .short, .parity, .unknown, .range, .invalid, .state, .mismatch, .queueEmpty] :
          List Status).map Status.code
        = [0, 1, 2, 3, 4, 5, 6, 7, 8, 9]

/-! ## Layouts -/

/-- What is written is what is read back, bit for bit (R188): the layout of a descriptor, and that of a map entry
with a well-formed range, spell it back whatever bits follow, and a payload in range spells the descriptor or entry
whose response bits are the payload's own. -/
def Obligations.PayloadLayoutsReadBack : Prop :=
  (∀ (d : Descriptor) (more : Bits), parseDescriptor (d.bits ++ more) = some d)
    ∧ (∀ (bs : Bits) (d : Descriptor), 82 ≤ bs.length → parseDescriptor bs = some d → d.bits = bs.take 82)
    ∧ (∀ (e : MapEntry) (more : Bits), e.base.toNat ≤ e.limit.toNat → parseMapEntry (e.bits ++ more) = some e)
    ∧ ∀ (bs : Bits) (e : MapEntry), 74 ≤ bs.length → parseMapEntry bs = some e →
        e.bits = bs.take 74 ∧ e.base.toNat ≤ e.limit.toNat

/-- The response layouts of R189: class status of 268 bits, a slot of 74, all zero when FREE, and device status of
108, each field at its place; bits 52 to 98 of a device status are the payload that sets the settings it shows. -/
def Obligations.ResponseLayouts : Prop :=
  (∀ (s : State) (c : ClassId),
        (s.classStatusBits c).length = 268
          ∧ bitFlag (s.classStatusBits c) 0 = (s.classes[c].run == .running)
          ∧ bitField (s.classStatusBits c) 1 2 = s.fences[c].state.code
          ∧ bitField (s.classStatusBits c) 3 17 = BitVec.ofInt 17 s.classes[c].credit
          ∧ bitField (s.classStatusBits c) 20 16 = s.classes[c].counter
          ∧ bitField (s.classStatusBits c) 36 16 = s.classes[c].number
          ∧ bitField (s.classStatusBits c) 52 16 = s.fences[c].timer
          ∧ bitField (s.classStatusBits c) 68 32 = s.digests[c]
          ∧ bitField (s.classStatusBits c) 100 24 = s.tallies[c].readBeats
          ∧ bitField (s.classStatusBits c) 124 24 = s.tallies[c].writeBeats
          ∧ bitField (s.classStatusBits c) 148 24 = s.tallies[c].lentBeats
          ∧ bitField (s.classStatusBits c) 172 24 = s.tallies[c].borrowedBeats
          ∧ bitField (s.classStatusBits c) 196 24 = s.tallies[c].forcedReleases
          ∧ bitField (s.classStatusBits c) 220 24 = s.tallies[c].creditWaits
          ∧ bitField (s.classStatusBits c) 244 24 = s.tallies[c].faults)
    ∧ (∀ (s : State) (k : SlotId),
        (s.slots[k] = none → s.slotBits k = List.replicate 74 false)
          ∧ ∀ h : HeldSlot, s.slots[k] = some h →
              (s.slotBits k).length = 74
                ∧ bitFlag (s.slotBits k) 0 = true
                ∧ bitFlag (s.slotBits k) 1 = (h.request.kind == .write)
                ∧ bitField (s.slotBits k) 2 6 = h.request.tag
                ∧ bitField (s.slotBits k) 8 40 = h.request.address
                ∧ bitField (s.slotBits k) 48 5 = BitVec.ofNat 5 h.request.length
                ∧ bitField (s.slotBits k) 53 3 = BitVec.ofNat 3 h.cls.val
                ∧ bitField (s.slotBits k) 56 5 = BitVec.ofNat 5 (s.arrival.takeWhile fun j => j != k).length
                ∧ bitField (s.slotBits k) 61 8 = h.wait
                ∧ bitFlag (s.slotBits k) 69 = h.forced
                ∧ bitFlag (s.slotBits k) 70 = h.creditWaited
                ∧ bitField (s.slotBits k) 71 3 = (s.holdReason k h).code)
    ∧ (∀ s : State,
        s.deviceStatusBits.length = 108
          ∧ bitField s.deviceStatusBits 0 6 = BitVec.ofNat 6 (s.slots.toList.countP Option.isSome)
          ∧ bitField s.deviceStatusBits 6 6 = BitVec.ofNat 6 s.inFlight.length
          ∧ bitField s.deviceStatusBits 12 7 = BitVec.ofNat 7 s.records.length
          ∧ bitField s.deviceStatusBits 19 16 = s.nextSerial
          ∧ bitField s.deviceStatusBits 35 16 = s.pendingGap
          ∧ bitFlag s.deviceStatusBits 51 = s.freeze
          ∧ parseEventSet s.deviceStatusBits 99 = s.eventStates
          ∧ bitFlag s.deviceStatusBits 107 = s.alert
          ∧ (16 ≤ s.divisor.toNat → 1 ≤ s.threshold.toNat → s.threshold.toNat ≤ 64 →
              parseControls (s.deviceStatusBits.drop 52)
                = some
                    { divisor := s.divisor
                      drainLimit := s.drainLimit
                      threshold := s.threshold
                      mask := s.enableMask }))
    ∧ ([.unfenced, .draining, .fenced, .stuck] : List FenceState).map FenceState.code = [0, 1, 2, 3]
    ∧ ([.ready, .order, .fence, .credit, .space] : List HoldReason).map HoldReason.code = [1, 2, 3, 4, 5]

/-- A period record is 212 bits, 32 more with a digest and 16 more with a gap, each field where R190 puts it. -/
def Obligations.RecordLayout : Prop :=
  (∀ p : PeriodRecord,
        p.bits.length = 212 + (if p.facts.digest.isSome then 32 else 0) + (if p.gap.isSome then 16 else 0)
          ∧ bitField p.bits 0 16 = p.serial
          ∧ bitField p.bits 16 3 = BitVec.ofNat 3 p.facts.cls.val
          ∧ bitField p.bits 19 16 = p.facts.number
          ∧ bitField p.bits 35 2 = p.facts.cause.code
          ∧ bitField p.bits 37 4 = BitVec.ofNat 4 p.facts.debt
          ∧ bitFlag p.bits 41 = p.facts.adopted
          ∧ bitFlag p.bits 42 = p.facts.digest.isSome
          ∧ bitFlag p.bits 43 = p.gap.isSome
          ∧ bitField p.bits 44 24 = p.facts.tally.readBeats
          ∧ bitField p.bits 68 24 = p.facts.tally.writeBeats
          ∧ bitField p.bits 92 24 = p.facts.tally.lentBeats
          ∧ bitField p.bits 116 24 = p.facts.tally.borrowedBeats
          ∧ bitField p.bits 140 24 = p.facts.tally.forcedReleases
          ∧ bitField p.bits 164 24 = p.facts.tally.creditWaits
          ∧ bitField p.bits 188 24 = p.facts.tally.faults
          ∧ (∀ d : Digest, p.facts.digest = some d → bitField p.bits 212 32 = d)
          ∧ ∀ g : BitVec 16, p.gap = some g →
              bitField p.bits (if p.facts.digest.isSome then 244 else 212) 16 = g)
    ∧ ([.elapsed, .restart, .stop] : List Cause).map Cause.code = [0, 1, 2]

/-! ## Device-wide commands -/

/-- SET DEVICE CONTROLS (R183): the four settings are replaced together and the count restarts; a divisor below 16
or a threshold outside 1–64 is refused with RANGE and changes no setting. -/
def Obligations.SetDeviceControlsReplacesAll : Prop :=
  ∀ (s : State) (o : BitVec 5) (r : Bits), s.resetAsserted = false → s.receiver = .ready → 47 ≤ r.length →
    exec (.setDeviceControls o r) s
      = if 16 ≤ (bitField r 0 16).toNat ∧ 1 ≤ (bitField r 32 7).toNat ∧ (bitField r 32 7).toNat ≤ 64 then
          .next
            { s.answered (12 + r.length) .done [] with
              divisor := bitField r 0 16
              drainLimit := bitField r 16 16
              threshold := bitField r 32 7
              enableMask :=
                { recordLevel := bitFlag r 39, recordDropped := bitFlag r 40, fenceDone := bitFlag r 41
                  fenceStuck := bitFlag r 42, forcedRelease := bitFlag r 43, strayResponse := bitFlag r 44
                  shapeError := bitFlag r 45, linkError := bitFlag r 46 }
              count := 0 }
        else .next (s.answered (12 + r.length) .range [])

/-- CLEAR ALERTS (R181): without its payload it is refused with SHORT and clears nothing; else each named sticky
event becomes clear, the others keep their states, and naming RECORD_LEVEL has no effect. -/
def Obligations.ClearAlertsClearsTheNamed : Prop :=
  ∀ (s : State) (o : BitVec 5) (r : Bits), s.resetAsserted = false → s.receiver = .ready →
    (r.length < 8 →
        exec (.clearAlerts o r) s
          = .next { s.answered (12 + r.length) .short [] with sticky := { s.sticky with linkError := true } })
      ∧ (8 ≤ r.length →
          exec (.clearAlerts o r) s
            = .next
                { s.answered (12 + r.length) .done [] with
                  sticky :=
                    { recordDropped := s.sticky.recordDropped && !r.getD 1 false
                      fenceDone := s.sticky.fenceDone && !r.getD 2 false
                      fenceStuck := s.sticky.fenceStuck && !r.getD 3 false
                      forcedRelease := s.sticky.forcedRelease && !r.getD 4 false
                      strayResponse := s.sticky.strayResponse && !r.getD 5 false
                      shapeError := s.sticky.shapeError && !r.getD 6 false
                      linkError := s.sticky.linkError && !r.getD 7 false } })

/-- CLEAR REGULATION: class records, map, fences, digests, tallies and the Report Queue take their starting values;
held and in-flight requests, settings and events are kept, and the held requests are judged afresh. -/
def Obligations.ClearRegulationKeepsRequests : Prop :=
  ∀ (s : State) (o : BitVec 5) (r : Bits), s.resetAsserted = false → s.receiver = .ready →
    exec (.clearRegulation o r) s
      = .next
          ({ s.answered (12 + r.length) .done [] with
              classes := Vector.replicate 8 .reset
              map := Vector.replicate 16 .reset
              fences := Vector.replicate 8 { state := .unfenced, timer := 0 }
              digests := Vector.replicate 8 0
              tallies := Vector.replicate 8 .zero
              records := []
              nextSerial := 0
              pendingGap := 0 } : State).judged

/-- The ALERT line (R182): asserted exactly while RESET is not and some event is both active and enabled; a hard
reset clears every event, enables none and leaves it negated. -/
def Obligations.AlertFollowsEnabledEvents : Prop :=
  ∀ s : State,
    (s.alert = true ↔
      s.resetAsserted = false
        ∧ ((s.threshold.toNat ≤ s.records.length ∧ s.enableMask.recordLevel = true)
          ∨ (s.sticky.recordDropped = true ∧ s.enableMask.recordDropped = true)
          ∨ (s.sticky.fenceDone = true ∧ s.enableMask.fenceDone = true)
          ∨ (s.sticky.fenceStuck = true ∧ s.enableMask.fenceStuck = true)
          ∨ (s.sticky.forcedRelease = true ∧ s.enableMask.forcedRelease = true)
          ∨ (s.sticky.strayResponse = true ∧ s.enableMask.strayResponse = true)
          ∨ (s.sticky.shapeError = true ∧ s.enableMask.shapeError = true)
          ∨ (s.sticky.linkError = true ∧ s.enableMask.linkError = true)))
      ∧ ∃ t : State,
          exec .hardReset s = .next t ∧ t.sticky = .clear ∧ t.enableMask = .none ∧ t.alert = false

/-- A pending sticky event stays pending until CLEAR ALERTS names it or the part is reset (R180). -/
def Obligations.StickyEventsStayPending : Prop :=
  ∀ (i : Instr) (s t : State), exec i s = .next t →
    (∀ (o : BitVec 5) (r : Bits), i ≠ .clearAlerts o r) → i ≠ .hardReset →
      (s.sticky.recordDropped = true → t.sticky.recordDropped = true)
        ∧ (s.sticky.fenceDone = true → t.sticky.fenceDone = true)
        ∧ (s.sticky.fenceStuck = true → t.sticky.fenceStuck = true)
        ∧ (s.sticky.forcedRelease = true → t.sticky.forcedRelease = true)
        ∧ (s.sticky.strayResponse = true → t.sticky.strayResponse = true)
        ∧ (s.sticky.shapeError = true → t.sticky.shapeError = true)
        ∧ (s.sticky.linkError = true → t.sticky.linkError = true)

/-! ## Descriptors and class control -/

/-- STAGE DESCRIPTOR (R28, R29, R51): a grant-mode code 2 or 3, or a lender code 8 to 14, is refused with RANGE;
with the codes in range, the descriptor is refused with INVALID exactly on the tests of R51, else it is written to
the staged descriptor of a RUNNING class and to both of an IDLE one. -/
def Obligations.StageDescriptorWritesOrRefuses : Prop :=
  ∀ (s : State) (o : BitVec 5) (r : Bits) (c : ClassId), s.resetAsserted = false → s.receiver = .ready →
    82 ≤ r.length → o.toNat = c.val →
    let inRange : Prop :=
      (bitField r 32 2).toNat ≤ 1 ∧ ((bitField r 34 4).toNat ≤ 7 ∨ (bitField r 34 4).toNat = 15)
    let d : Descriptor :=
      { budget := bitField r 0 16
        period := bitField r 16 16
        mode := if bitField r 32 2 = 0 then .whole else .split
        lender := if bitField r 34 4 = 15 then none else some (Fin.ofNat 8 (bitField r 34 4).toNat)
        priority := bitField r 38 2
        holdLimit := bitField r 40 8
        signing := r.getD 48 false
        reporting := r.getD 49 false
        seed := bitField r 50 32 }
    let refused : Prop :=
      ∃ l : ClassId, d.lender = some l
        ∧ (l = c ∨ s.classes[l].active.lender ≠ none ∨ s.classes[l].staged.lender ≠ none
          ∨ ∃ b : ClassId, s.classes[b].active.lender = some c ∨ s.classes[b].staged.lender = some c)
    (¬ inRange → exec (.stageDescriptor o r) s = .next (s.answered (12 + r.length) .range []))
      ∧ (inRange → refused →
          exec (.stageDescriptor o r) s = .next (s.answered (12 + r.length) .invalid []))
      ∧ (inRange → ¬ refused →
          exec (.stageDescriptor o r) s
            = .next
                ({ s.answered (12 + r.length) .done [] with
                    classes :=
                      s.classes.set c
                        { s.classes[c] with
                          staged := d
                          active := if s.classes[c].run = .idle then d else s.classes[c].active } } : State).judged)

/-- START CLASS (R34): an operand of 8 or more is refused with RANGE; a RUNNING class is refused with STATE; an IDLE
one becomes RUNNING with counter and period number 0, the credit of R10's first row, a tally of zeros and the active
seed as its digest. -/
def Obligations.StartClassOpensAPeriod : Prop :=
  ∀ (s : State) (o : BitVec 5) (r : Bits), s.resetAsserted = false → s.receiver = .ready →
    (8 ≤ o.toNat → exec (.startClass o r) s = .next (s.answered (12 + r.length) .range []))
      ∧ ∀ c : ClassId, o.toNat = c.val →
          (s.classes[c].run = .running →
              exec (.startClass o r) s = .next (s.answered (12 + r.length) .state []))
            ∧ (s.classes[c].run = .idle →
                exec (.startClass o r) s
                  = .next
                      ({ s.answered (12 + r.length) .done [] with
                          classes :=
                            s.classes.set c
                              { s.classes[c] with
                                run := .running
                                counter := 0
                                number := 0
                                credit :=
                                  if s.classes[c].active.period = 0 then 0
                                  else if s.classes[c].active.mode = .split ∧ s.classes[c].active.period ≠ 1 then
                                    (((s.classes[c].active.budget.toNat + 1) / 2 : Nat) : Int)
                                  else (s.classes[c].active.budget.toNat : Int) }
                          tallies := s.tallies.set c .zero
                          digests := s.digests.set c s.classes[c].active.seed } : State).judged)

/-- STOP CLASS (R36): an operand of 8 or more is refused with RANGE; an IDLE class is refused with STATE; a RUNNING
one hands over a STOP record if it reports, with no debt, then adopts, becomes IDLE and has credit and counter 0.
Its period number, tally, digest and fence stay. -/
def Obligations.StopClassReportsAndIdles : Prop :=
  ∀ (s : State) (o : BitVec 5) (r : Bits), s.resetAsserted = false → s.receiver = .ready →
    (8 ≤ o.toNat → exec (.stopClass o r) s = .next (s.answered (12 + r.length) .range []))
      ∧ ∀ c : ClassId, o.toNat = c.val →
          (s.classes[c].run = .idle → exec (.stopClass o r) s = .next (s.answered (12 + r.length) .state []))
            ∧ (s.classes[c].run = .running →
                let facts : PeriodFacts :=
                  { cls := c
                    number := s.classes[c].number
                    cause := .stop
                    tally := s.tallies[c]
                    debt := 0
                    adopted := decide (s.classes[c].staged ≠ s.classes[c].active)
                    digest := if s.classes[c].active.signing then some s.digests[c] else none }
                let reported : State := if s.classes[c].active.reporting then s.handOver facts else s
                exec (.stopClass o r) s
                  = .next
                      ({ reported.answered (12 + r.length) .done [] with
                          classes :=
                            s.classes.set c
                              { s.classes[c] with
                                active := s.classes[c].staged
                                run := .idle
                                credit := 0
                                counter := 0 } } : State).judged)

/-- RESTART CLASS (R38): an operand of 8 or more is refused with RANGE; an IDLE class is refused with STATE; a
RUNNING one hands over a RESTART record if it reports, adopts, raises its period number, restarts its counter,
renews its credit with the debt carried, and starts a period. -/
def Obligations.RestartClassClosesAndOpens : Prop :=
  ∀ (s : State) (o : BitVec 5) (r : Bits), s.resetAsserted = false → s.receiver = .ready →
    (8 ≤ o.toNat → exec (.restartClass o r) s = .next (s.answered (12 + r.length) .range []))
      ∧ ∀ c : ClassId, o.toNat = c.val →
          (s.classes[c].run = .idle → exec (.restartClass o r) s = .next (s.answered (12 + r.length) .state []))
            ∧ (s.classes[c].run = .running →
                let facts : PeriodFacts :=
                  { cls := c
                    number := s.classes[c].number
                    cause := .restart
                    tally := s.tallies[c]
                    debt := (min s.classes[c].credit 0).natAbs
                    adopted := decide (s.classes[c].staged ≠ s.classes[c].active)
                    digest := if s.classes[c].active.signing then some s.digests[c] else none }
                let reported : State := if s.classes[c].active.reporting then s.handOver facts else s
                let d : Descriptor := s.classes[c].staged
                exec (.restartClass o r) s
                  = .next
                      ({ reported.answered (12 + r.length) .done [] with
                          classes :=
                            s.classes.set c
                              { s.classes[c] with
                                active := d
                                number := s.classes[c].number + 1
                                counter := 0
                                credit :=
                                  if d.period = 0 then 0
                                  else if d.mode = .split ∧ d.period ≠ 1 then
                                    (((d.budget.toNat + 1) / 2 : Nat) : Int) + min s.classes[c].credit 0
                                  else (d.budget.toNat : Int) + min s.classes[c].credit 0 }
                          tallies := s.tallies.set c .zero
                          digests := s.digests.set c d.seed } : State).judged)

/-! ## Report Queue -/

/-- A record handed over is admitted by a queue with room (R146): it takes the next serial and any pending gap, and
stands at the young end; a full queue drops it (R147): the pending gap rises up to 65535 and RECORD_DROPPED is
raised. -/
def Obligations.RecordAdmittedOrDropped : Prop :=
  ∀ (s : State) (p : PeriodFacts),
    (s.records.length < 64 →
        s.handOver p
          = { s with
              records :=
                s.records ++
                  [{ facts := p
                     serial := s.nextSerial
                     gap := if s.pendingGap.toNat = 0 then none else some s.pendingGap }]
              nextSerial := BitVec.ofNat 16 ((s.nextSerial.toNat + 1) % 65536)
              pendingGap := 0 })
      ∧ (64 ≤ s.records.length →
          s.handOver p
            = { s with
                pendingGap := if s.pendingGap.toNat = 65535 then s.pendingGap else s.pendingGap + 1
                sticky := { s.sticky with recordDropped := true } })

/-- READ RECORD (R149): the oldest record whole with DONE, or QUEUE_EMPTY; the queue is not changed. -/
def Obligations.ReadRecordShowsTheOldest : Prop :=
  ∀ (s : State) (o : BitVec 5) (r : Bits), s.resetAsserted = false → s.receiver = .ready →
    (s.records = [] → exec (.readRecord o r) s = .next (s.answered (12 + r.length) .queueEmpty []))
      ∧ ∀ (p : PeriodRecord) (younger : List PeriodRecord), s.records = p :: younger →
          exec (.readRecord o r) s = .next (s.answered (12 + r.length) .done p.bits)

/-- RETIRE RECORD (R150): SHORT without its payload, QUEUE_EMPTY, the oldest removed with DONE when its serial is
the one given, or MISMATCH. -/
def Obligations.RetireRecordBySerial : Prop :=
  ∀ (s : State) (o : BitVec 5) (r : Bits), s.resetAsserted = false → s.receiver = .ready →
    (r.length < 16 →
        exec (.retireRecord o r) s
          = .next { s.answered (12 + r.length) .short [] with sticky := { s.sticky with linkError := true } })
      ∧ (16 ≤ r.length → s.records = [] →
          exec (.retireRecord o r) s = .next (s.answered (12 + r.length) .queueEmpty []))
      ∧ ∀ (p : PeriodRecord) (younger : List PeriodRecord), 16 ≤ r.length → s.records = p :: younger →
          (p.serial = bitField r 0 16 →
              exec (.retireRecord o r) s
                = .next { s.answered (12 + r.length) .done [] with records := younger })
            ∧ (p.serial ≠ bitField r 0 16 →
                exec (.retireRecord o r) s = .next (s.answered (12 + r.length) .mismatch []))

/-! ## Time -/

/-- PERIOD_END (R12), where the record of class `c` has yet to take a tick that brings its counter to its period:
the ending period is reported with cause ELAPSED, the staged descriptor adopted, the period number raised, the
credit renewed and a period started. That a record can owe a tick is the model's choice (log entry 2). -/
def Obligations.PeriodEndClosesAndOpens : Prop :=
  ∀ (s : State) (c : ClassId), TickTaker.record c ∈ s.owedTicks → s.classes[c].run = .running →
    s.classes[c].active.period ≠ 0 → s.classes[c].counter + 1 = s.classes[c].active.period →
      let facts : PeriodFacts :=
        { cls := c
          number := s.classes[c].number
          cause := .elapsed
          tally := s.tallies[c]
          debt := (min s.classes[c].credit 0).natAbs
          adopted := decide (s.classes[c].staged ≠ s.classes[c].active)
          digest := if s.classes[c].active.signing then some s.digests[c] else none }
      let reported : State := if s.classes[c].active.reporting then s.handOver facts else s
      let d : Descriptor := s.classes[c].staged
      exec (.periodEnd c) s
        = .next
            ({ reported with
                classes :=
                  s.classes.set c
                    { s.classes[c] with
                      active := d
                      number := s.classes[c].number + 1
                      counter := 0
                      credit :=
                        if d.period = 0 then 0
                        else if d.mode = .split ∧ d.period ≠ 1 then
                          (((d.budget.toNat + 1) / 2 : Nat) : Int) + min s.classes[c].credit 0
                        else (d.budget.toNat : Int) + min s.classes[c].credit 0 }
                tallies := s.tallies.set c .zero
                digests := s.digests.set c d.seed
                owedTicks := s.owedTicks.filter fun t => t != .record c } : State).judged

/-- HALF_GRANT (R11), where the record of class `c` has yet to take the tick that brings its counter to half its
period: floor(B/2) is added to the credit. That a record can owe a tick is the model's choice (log entry 2). -/
def Obligations.HalfGrantAddsHalfTheBudget : Prop :=
  ∀ (s : State) (c : ClassId), TickTaker.record c ∈ s.owedTicks → s.classes[c].run = .running →
    s.classes[c].active.mode = .split → 2 ≤ s.classes[c].active.period.toNat →
    (s.classes[c].counter + 1).toNat = s.classes[c].active.period.toNat / 2 →
      exec (.halfGrant c) s
        = .next
            ({ s with
                classes :=
                  s.classes.set c
                    { s.classes[c] with
                      counter := s.classes[c].counter + 1
                      credit := s.classes[c].credit + ((s.classes[c].active.budget.toNat / 2 : Nat) : Int) }
                owedTicks := s.owedTicks.filter fun t => t != .record c } : State).judged

/-- HOLD_LIMIT_EXPIRY (R82, R83), where the Hold Pool has yet to take a tick that brings the wait counter of slot `k`
to its regulated, unfenced class's non-zero hold limit: the pool takes that tick, so that every held request of an
UNFENCED class waits one tick more, the forced flag is set of slot `k` and of every other request that expires, and
FORCED_RELEASE is raised. That the pool can owe a tick is the model's choice (log entry 2). -/
def Obligations.HoldLimitExpiryForces : Prop :=
  ∀ (s : State) (k : SlotId) (h : HeldSlot), TickTaker.pool ∈ s.owedTicks → s.slots[k] = some h →
    s.fences[h.cls].state = .unfenced → s.classes[h.cls].run = .running →
    s.classes[h.cls].active.period ≠ 0 → s.classes[h.cls].active.holdLimit ≠ 0 → h.forced = false →
    s.classes[h.cls].active.holdLimit.toNat ≤ min (h.wait.toNat + 1) 255 →
      ∃ slots : Vector (Option HeldSlot) 32,
        slots[k] = some { h with wait := BitVec.ofNat 8 (min (h.wait.toNat + 1) 255), forced := true }
          ∧ (∀ j : SlotId,
              slots[j]
                = (s.slots[j]).map fun g =>
                    if s.fences[g.cls].state = .unfenced then
                      { g with
                        wait := BitVec.ofNat 8 (min (g.wait.toNat + 1) 255)
                        forced :=
                          g.forced
                            || (s.classes[g.cls].run == .running && s.classes[g.cls].active.period != 0
                              && s.classes[g.cls].active.holdLimit != 0
                              && decide (s.classes[g.cls].active.holdLimit.toNat ≤ min (g.wait.toNat + 1) 255)) }
                    else g)
          ∧ exec (.holdLimitExpiry k) s
            = .next
                ({ s with
                    slots := slots
                    sticky := { s.sticky with forcedRelease := true }
                    owedTicks := s.owedTicks.filter fun t => t != .pool } : State).judged

/-- DRAIN_STUCK (R118), where the Fence Monitor has yet to take a tick that brings the drain timer of DRAINING class
`c` to a non-zero drain limit: the monitor takes that tick, so that every DRAINING class counts, class `c` and every
other at the limit becomes STUCK, and FENCE_STUCK is raised. That the monitor can owe a tick is the model's choice
(log entry 2). -/
def Obligations.DrainLimitSticks : Prop :=
  ∀ (s : State) (c : ClassId), TickTaker.fenceMonitor ∈ s.owedTicks → s.fences[c].state = .draining →
    s.drainLimit ≠ 0 → s.drainLimit.toNat ≤ min (s.fences[c].timer.toNat + 1) 65535 →
      ∃ fences : Vector FenceRecord 8,
        fences[c] = { state := .stuck, timer := BitVec.ofNat 16 (min (s.fences[c].timer.toNat + 1) 65535) }
          ∧ (∀ d : ClassId,
              let timer : Nat := min (s.fences[d].timer.toNat + 1) 65535
              fences[d]
                = if s.fences[d].state = .draining then
                    { state := if s.drainLimit.toNat ≤ timer then .stuck else .draining
                      timer := BitVec.ofNat 16 timer }
                  else s.fences[d])
          ∧ exec (.drainStuck c) s
            = .next
                ({ s with
                    fences := fences
                    sticky := { s.sticky with fenceStuck := true }
                    owedTicks := s.owedTicks.filter fun t => t != .fenceMonitor } : State).judged

/-- The four events of a tick do not come where they are not due, and nothing changes then: each condition of R7, R11,
R83 and R118, failing, is enough. That such an event, which cannot happen, leaves the state as it is, is the model's
choice (log entry 2). -/
def Obligations.TickEventsNotDueChangeNothing : Prop :=
  ∀ s : State,
    (∀ c : ClassId,
        (TickTaker.record c ∉ s.owedTicks ∨ s.classes[c].run = .idle ∨ s.classes[c].active.period = 0
            ∨ s.classes[c].counter + 1 ≠ s.classes[c].active.period →
          exec (.periodEnd c) s = .next s)
        ∧ (TickTaker.record c ∉ s.owedTicks ∨ s.classes[c].run = .idle ∨ s.classes[c].active.period = 0
            ∨ s.classes[c].active.mode = .whole ∨ s.classes[c].active.period.toNat < 2
            ∨ (s.classes[c].counter + 1).toNat ≠ s.classes[c].active.period.toNat / 2 →
          exec (.halfGrant c) s = .next s))
      ∧ (∀ k : SlotId,
          (TickTaker.pool ∉ s.owedTicks ∨ s.slots[k] = none →
            exec (.holdLimitExpiry k) s = .next s)
          ∧ ∀ h : HeldSlot, s.slots[k] = some h →
              s.fences[h.cls].state ≠ .unfenced ∨ s.classes[h.cls].run = .idle
                ∨ s.classes[h.cls].active.period = 0 ∨ s.classes[h.cls].active.holdLimit = 0 ∨ h.forced = true
                ∨ min (h.wait.toNat + 1) 255 < s.classes[h.cls].active.holdLimit.toNat →
              exec (.holdLimitExpiry k) s = .next s)
      ∧ ∀ c : ClassId,
          TickTaker.fenceMonitor ∉ s.owedTicks ∨ s.fences[c].state ≠ .draining ∨ s.drainLimit = 0
            ∨ min (s.fences[c].timer.toNat + 1) 65535 < s.drainLimit.toNat →
          exec (.drainStuck c) s = .next s

/-- A tick (R7, R11, R12, R82, R83, R118, R148, R177), whatever the order among the blocks: once what still owes the
last tick has taken that one, the count returns to 0 and every block but those of `later` takes the tick once, in the
order given. `State.afterTick` writes out what it leaves: each class's record, tally and digest, each held request
with its forced flag, each fence, the ELAPSED records handed over one by one in that order, and the events
RECORD_DROPPED, FORCED_RELEASE and FENCE_STUCK; nothing else changes but the judgement that follows. The order and the
blocks that take the tick later are operands of the model's (log entry 2). -/
def Obligations.TickReachesEveryBlockOnce : Prop :=
  ∀ (s : State) (order later : List TickTaker), s.resetAsserted = false → s.freeze = false → s.owedTicks.Nodup →
    ∃ sequence : List TickTaker,
      sequence.Nodup ∧ (∀ u : TickTaker, u ∈ sequence) ∧ order.dedup <+: sequence
        ∧ exec (.tick order later) s
          = .next
              ({ s.settled.afterTick (sequence.filter fun u => u ∉ later) with
                  count := 0
                  owedTicks := sequence.filter fun u => u ∈ later } : State).judged

/-- Blocks named to take a tick later owe it and are as they were, once what still owed the last tick has taken that
one; that a tick can be taken so is the model's way to give the blocks no order (log entry 2). -/
def Obligations.TickTakenLaterIsOwed : Prop :=
  ∀ (s : State) (order later : List TickTaker), s.resetAsserted = false → s.freeze = false → s.owedTicks.Nodup →
    ∃ t : State, exec (.tick order later) s = .next t
      ∧ (∀ u : TickTaker, u ∈ t.owedTicks ↔ u ∈ later)
      ∧ (∀ c : ClassId, TickTaker.record c ∈ later →
          t.classes[c] = s.settled.classes[c] ∧ t.tallies[c] = s.settled.tallies[c]
            ∧ t.digests[c] = s.settled.digests[c])
      ∧ (TickTaker.fenceMonitor ∈ later → t.fences = s.settled.fences)
      ∧ (TickTaker.pool ∈ later → ∀ k : SlotId,
          (s.settled.slots[k] = none → t.slots[k] = none)
            ∧ ∀ h : HeldSlot, s.settled.slots[k] = some h →
                ∃ w : Bool, t.slots[k] = some { h with creditWaited := w })

/-- FREEZE (R178, R179): on assertion a tick already made is taken by what still owes it (log entry 2), the freeze
state is asserted and the count is 0; while it is asserted no tick comes; on release the count restarts from 0. That a
repeated assertion, and a release while FREEZE is negated, change nothing is the model's choice (log entry 12), and so
is a step on an empty queue (log entry 1). -/
def Obligations.FreezeHoldsTicksOff : Prop :=
  ∀ s : State,
    (s.freeze = false → s.owedTicks.Nodup →
        exec .freezeAssert s = .next { s.settled with freeze := true, count := 0 }
          ∧ exec .freezeRelease s = .next s)
      ∧ (s.freeze = true →
          exec .freezeAssert s = .next s
            ∧ (∀ order later : List TickTaker, exec (.tick order later) s = .next s)
            ∧ (s.pending = [] → step s = .next s)
            ∧ exec .freezeRelease s = .next { s with freeze := false, count := 0 })

/-! ## Region Map and acceptance -/

/-- Classification (R55 to R58): the first entry whose four tests pass gives the class, and class 0 where none does.
-/
def Obligations.ClassificationByFirstMatch : Prop :=
  ∀ (s : State) (r : Request),
    let matchesEntry (i : MapId) : Prop :=
      s.map[i].valid = true
        ∧ s.map[i].base.toNat * 4096 ≤ r.address.toNat ∧ r.address.toNat ≤ s.map[i].limit.toNat * 4096 + 4095
        ∧ (∀ b : Nat, s.map[i].tagMask.getLsbD b = true → r.tag.getLsbD b = s.map[i].tagMatch.getLsbD b)
        ∧ (s.map[i].filter = .both ∨ (s.map[i].filter = .read ∧ r.kind = .read)
          ∨ (s.map[i].filter = .write ∧ r.kind = .write))
    (∀ i : MapId, matchesEntry i → (∀ j : MapId, j < i → ¬ matchesEntry j) → s.classify r = s.map[i].cls)
      ∧ ((∀ i : MapId, ¬ matchesEntry i) → s.classify r = 0)

/-- WRITE MAP ENTRY (R60, R61): all seven fields of the named entry are replaced at once; a kind-filter code 3, or a
base above the limit, is refused with RANGE. -/
def Obligations.WriteMapEntryReplacesTheEntry : Prop :=
  ∀ (s : State) (o : BitVec 5) (r : Bits) (i : MapId), s.resetAsserted = false → s.receiver = .ready →
    74 ≤ r.length → o.toNat = i.val →
    ((bitField r 69 2 = 3 ∨ (bitField r 29 28).toNat < (bitField r 1 28).toNat) →
        exec (.writeMapEntry o r) s = .next (s.answered (12 + r.length) .range []))
      ∧ (bitField r 69 2 ≠ 3 → (bitField r 1 28).toNat ≤ (bitField r 29 28).toNat →
          exec (.writeMapEntry o r) s
            = .next
                { s.answered (12 + r.length) .done [] with
                  map :=
                    s.map.set i
                      { valid := r.getD 0 false
                        base := bitField r 1 28
                        limit := bitField r 29 28
                        tagMatch := bitField r 57 6
                        tagMask := bitField r 63 6
                        filter :=
                          if bitField r 69 2 = 0 then .both else if bitField r 69 2 = 1 then .read else .write
                        cls := Fin.ofNat 8 (bitField r 71 3).toNat } })

/-- REQUEST_ACCEPT (R71): with a FREE slot and RESET negated, the request goes whole into the lowest-numbered FREE
slot with its class, wait counter 0 and both flags clear, at the young end of the arrival order. -/
def Obligations.AcceptTakesTheLowestFreeSlot : Prop :=
  ∀ (s : State) (r : Request) (k : SlotId), r.wf = true → s.resetAsserted = false → s.slots[k] = none →
    (∀ j : SlotId, j < k → s.slots[j] ≠ none) →
      exec (.requestAccept r) s
        = .next
            ({ s with
                slots :=
                  s.slots.set k
                    (some { request := r, cls := s.classify r, wait := 0, forced := false, creditWaited := false })
                arrival := s.arrival ++ [k] } : State).judged

/-- What a port that is not ready does not take (R70, R99): a request that finds RESET asserted or every slot HELD,
and a response while RESET is asserted. That the offer then leaves the model's state as it is, is the model's choice
(log entry 6). -/
def Obligations.UnreadyPortsTakeNothing : Prop :=
  ∀ s : State,
    (∀ r : Request, r.wf = true → (s.resetAsserted = true ∨ ∀ k : SlotId, s.slots[k] ≠ none) →
        exec (.requestAccept r) s = .next s)
      ∧ ∀ (tag : Tag) (st : ReplyStatus) (beat : BitVec 128) (last : Bool), s.resetAsserted = true →
          exec (.writeAck tag st last) s = .next s ∧ exec (.readData tag st beat last) s = .next s

/-! ## Judgement and issue -/

/-- A judgement (R74, R79): while the M-side can take a request, the credit-waited flag of a held request is set
where its order and fence conditions hold and its credit condition fails; no other field of any slot and nothing
else changes. -/
def Obligations.JudgementSetsCreditWaited : Prop :=
  ∀ s : State,
    exec .mSideCanTakeRequest s = .next ({ s with controllerReady := true } : State).judged
      ∧ (s.controllerReady = false ∨ s.resetAsserted = true → s.judged = s)
      ∧ s.judged = { s with slots := s.judged.slots }
      ∧ ∀ k : SlotId,
          (s.slots[k] = none → s.judged.slots[k] = none)
            ∧ ∀ h : HeldSlot, s.slots[k] = some h → s.controllerReady = true → s.resetAsserted = false →
                s.judged.slots[k]
                  = some
                      { h with
                        creditWaited :=
                          h.creditWaited
                            || (s.orderHolds k h && s.fenceHolds h && (s.creditMeans h).isNone) }

/-- The four conditions of eligibility (R74 to R78) and the derived reason (R80): the first failing one, in the
order order, fence, credit, space. -/
def Obligations.EligibilityIsFourConditions : Prop :=
  ∀ (s : State) (k : SlotId) (h : HeldSlot), s.slots[k] = some h →
    let order : Prop :=
      ∀ (j : SlotId) (g : HeldSlot), j ∈ s.arrival.takeWhile (fun j => j != k) → s.slots[j] = some g →
        ¬ (g.request.tag = h.request.tag ∧ g.request.kind = h.request.kind)
    let fence : Prop := s.fences[h.cls].state = .unfenced
    let credit : Prop := s.creditMeans h ≠ none
    let space : Prop := s.inFlight.length < 48
    (s.eligible k = true ↔ order ∧ fence ∧ credit ∧ space)
      ∧ (s.holdReason k h = .order ↔ ¬ order)
      ∧ (s.holdReason k h = .fence ↔ order ∧ ¬ fence)
      ∧ (s.holdReason k h = .credit ↔ order ∧ fence ∧ ¬ credit)
      ∧ (s.holdReason k h = .space ↔ order ∧ fence ∧ credit ∧ ¬ space)
      ∧ (s.holdReason k h = .ready ↔ order ∧ fence ∧ credit ∧ space)

/-- The credit condition and its means (R44, R45, R77): free for an IDLE or open class; for a regulated one by the
forced flag, else on own credit of 1 or more, else by a regulated lender whose credit covers the whole length. -/
def Obligations.CreditConditionMeans : Prop :=
  ∀ (s : State) (h : HeldSlot),
    let r := s.classes[h.cls]
    let regulated (c : ClassId) : Prop := s.classes[c].run = .running ∧ s.classes[c].active.period ≠ 0
    (s.creditMeans h = some .free ↔ ¬ regulated h.cls)
      ∧ (s.creditMeans h = some .forced ↔ regulated h.cls ∧ h.forced = true)
      ∧ (s.creditMeans h = some .own ↔ regulated h.cls ∧ h.forced = false ∧ 1 ≤ r.credit)
      ∧ ∀ l : ClassId,
          s.creditMeans h = some (.lent l) ↔
            regulated h.cls ∧ h.forced = false ∧ r.credit ≤ 0 ∧ r.active.lender = some l ∧ regulated l
              ∧ (h.request.length : Int) ≤ s.classes[l].credit

/-- The arbiter's choice (R93): an eligible request; in the forced group whenever an eligible one is, and then the
oldest of the group; else of the highest priority, and the oldest of those. No choice is made exactly when no held
request is eligible. -/
def Obligations.ArbiterChoosesForcedThenPriorityThenAge : Prop :=
  ∀ s : State,
    let forced (k : SlotId) : Prop :=
      ∃ h : HeldSlot, s.slots[k] = some h ∧ h.forced = true ∧ s.classes[h.cls].run = .running
    let priority (k : SlotId) : Nat :=
      match s.slots[k] with
      | some h => s.classes[h.cls].active.priority.toNat
      | none => 0
    (s.choice = none ↔ ∀ k ∈ s.arrival, s.eligible k = false)
      ∧ ∀ k : SlotId, s.choice = some k →
          k ∈ s.arrival ∧ s.eligible k = true
            ∧ (∀ j ∈ s.arrival, s.eligible j = true → forced j →
                forced k ∧ (j = k ∨ k ∈ s.arrival.takeWhile fun i => i != j))
            ∧ (¬ forced k →
                ∀ j ∈ s.arrival, s.eligible j = true →
                  priority j ≤ priority k
                    ∧ (priority j = priority k → j = k ∨ k ∈ s.arrival.takeWhile fun i => i != j))

/-- ISSUE (R95, R96, R97, R14, R129): the chosen request goes out unchanged; its slot is FREE and leaves the arrival
order; an entry stands at the young end; the credit it met its condition by is charged; a RUNNING class's tally
counts it; a signing RUNNING class's write is folded; nothing else changes but what the memory controller's
readiness is afterwards and the judgement it allows. That the readiness is an operand of ISSUE (log entry 4), and that
one judgement is made before the choice and one after the issue (log entry 16), are the model's choices. -/
def Obligations.IssueIsOneEvent : Prop :=
  ∀ (s : State) (b : Bool) (k : SlotId) (h : HeldSlot) (m : Means),
    s.resetAsserted = false → s.controllerReady = true → s.choice = some k → s.slots[k] = some h →
    s.creditMeans h = some m →
      let n := h.request.length
      let add (x : BitVec 24) (beats : Nat) : BitVec 24 := BitVec.ofNat 24 (min (x.toNat + beats) 16777215)
      let running : Bool := s.classes[h.cls].run == .running
      let counted (c : ClassId) : Tally :=
        let t := s.tallies[c]
        let own : Bool := running && c == h.cls
        { readBeats := if own && h.request.kind == .read then add t.readBeats n else t.readBeats
          writeBeats := if own && h.request.kind == .write then add t.writeBeats n else t.writeBeats
          lentBeats := if running && m == .lent c then add t.lentBeats n else t.lentBeats
          borrowedBeats := if own && m.isLent then add t.borrowedBeats n else t.borrowedBeats
          forcedReleases := if own && h.forced then add t.forcedReleases 1 else t.forcedReleases
          creditWaits := if own && h.creditWaited then add t.creditWaits 1 else t.creditWaits
          faults := t.faults }
      let charged (c : ClassId) : ClassRecord :=
        { s.classes[c] with
          credit := if (m = .own ∧ c = h.cls) ∨ m = .lent c then s.classes[c].credit - n else s.classes[c].credit }
      let folded (c : ClassId) : Digest :=
        if c = h.cls ∧ h.request.kind = .write ∧ running ∧ s.classes[c].active.signing then
          (foldWords h.request).foldl foldDigest s.digests[c]
        else s.digests[c]
      exec (.issue b) s
        = .next
            ({ s.judged with
                mSideOut := some h.request
                slots := s.judged.slots.set k none
                arrival := s.arrival.filter fun j => j != k
                inFlight :=
                  s.inFlight ++
                    [{ tag := h.request.tag
                       cls := h.cls
                       flight := if h.request.kind = .read then .read n 0 else .write }]
                classes := tabulate charged
                tallies := tabulate counted
                digests := tabulate folded
                controllerReady := b } : State).judged

/-- While the M-side cannot take a request, and while no held request is eligible, nothing is issued (R92). That an
ISSUE event then does nothing, or is the judgement of R74 alone (log entry 10), but for a ready memory controller that
ceases to be ready (log entry 4), is the model's choice. -/
def Obligations.NoIssueWithoutReadinessOrEligibility : Prop :=
  ∀ (s : State) (b : Bool),
    (s.controllerReady = false ∨ s.resetAsserted = true →
        exec (.issue b) s = .next { s with controllerReady := s.controllerReady && b })
      ∧ (s.choice = none → exec (.issue b) s = .next { s.judged with controllerReady := s.controllerReady && b })

/-- The fold of a word into a digest (R131), and the words of a write (R130): the low address word, then each beat's
four words, with a disabled byte as zero. -/
def Obligations.DigestFoldsAddressAndEnabledBytes : Prop :=
  (∀ d w : Digest,
      (d.getLsbD 31 = true → foldDigest d w = (d <<< 1 ^^^ 0x8F6E37A1) ^^^ w)
        ∧ (d.getLsbD 31 = false → foldDigest d w = d <<< 1 ^^^ w))
    ∧ (∀ r : Request,
        (foldWords r).length = 1 + 4 * r.data.length
          ∧ (foldWords r).getD 0 0 = BitVec.ofNat 32 r.address.toNat
          ∧ ∀ (i : Nat) (b : Beat) (k : Fin 4), r.data[i]? = some b →
              (foldWords r).getD (1 + 4 * i + k.val) 0 = beatWord b k.val)
    ∧ ∀ (b : Beat) (k : Fin 4) (j : Fin 32),
        (beatWord b k.val).getLsbD j.val
          = (b.enables.getLsbD (4 * k.val + j.val / 8) && b.bytes.getLsbD (32 * k.val + j.val))

/-! ## Responses -/

/-- WRITE_ACK (R99, R100, R104, R105, R117): passed on unchanged; the oldest WRITE entry with its tag leaves, a
FAULT counts for a RUNNING class, and a class drained by it moves from DRAINING or STUCK to FENCED; with no such
entry it is stray. Its last marker has no bearing. -/
def Obligations.WriteAckRemovesTheOldestMatch : Prop :=
  ∀ (s : State) (tag : Tag) (st : ReplyStatus) (last : Bool), s.resetAsserted = false →
    let passed : State := { s with iSideOut := some (.writeAck tag st last) }
    ((∀ e ∈ s.inFlight, ¬ (e.flight = .write ∧ e.tag = tag)) →
        exec (.writeAck tag st last) s
          = .next ({ passed with sticky := { s.sticky with strayResponse := true } } : State).judged)
      ∧ ∀ (older younger : List Entry) (e : Entry), s.inFlight = older ++ e :: younger →
          (∀ x ∈ older, ¬ (x.flight = .write ∧ x.tag = tag)) → e.flight = .write → e.tag = tag →
            let drained : Bool :=
              decide (∀ x ∈ older ++ younger, x.cls ≠ e.cls)
                && (s.fences[e.cls].state == .draining || s.fences[e.cls].state == .stuck)
            exec (.writeAck tag st last) s
              = .next
                  ({ passed with
                      inFlight := older ++ younger
                      tallies :=
                        if st = .fault ∧ s.classes[e.cls].run = .running then
                          s.tallies.set e.cls
                            { s.tallies[e.cls] with
                              faults := BitVec.ofNat 24 (min (s.tallies[e.cls].faults.toNat + 1) 16777215) }
                        else s.tallies
                      fences :=
                        if drained then s.fences.set e.cls { s.fences[e.cls] with state := .fenced } else s.fences
                      sticky := if drained then { s.sticky with fenceDone := true } else s.sticky } : State).judged

/-- READ_DATA (R99, R101, R102, R104, R105, R117): passed on unchanged; counted against the oldest READ entry with
its tag; a marked beat removes the entry, and a beat that disagrees with the length raises SHAPE_ERROR; with no such
entry it is stray. -/
def Obligations.ReadDataCountsTheOldestMatch : Prop :=
  ∀ (s : State) (tag : Tag) (st : ReplyStatus) (beat : BitVec 128) (last : Bool), s.resetAsserted = false →
    let passed : State := { s with iSideOut := some (.readData tag st beat last) }
    ((∀ e ∈ s.inFlight, ¬ (e.flight ≠ .write ∧ e.tag = tag)) →
        exec (.readData tag st beat last) s
          = .next ({ passed with sticky := { s.sticky with strayResponse := true } } : State).judged)
      ∧ ∀ (older younger : List Entry) (e : Entry) (n c : Nat), s.inFlight = older ++ e :: younger →
          (∀ x ∈ older, ¬ (x.flight ≠ .write ∧ x.tag = tag)) → e.flight = .read n c → e.tag = tag →
            let shape : Bool := if last then c + 1 != n else decide (n ≤ c)
            let drained : Bool :=
              last && decide (∀ x ∈ older ++ younger, x.cls ≠ e.cls)
                && (s.fences[e.cls].state == .draining || s.fences[e.cls].state == .stuck)
            exec (.readData tag st beat last) s
              = .next
                  ({ passed with
                      inFlight :=
                        if last then older ++ younger
                        else if c < n then older ++ { e with flight := .read n (c + 1) } :: younger
                        else s.inFlight
                      tallies :=
                        if st = .fault ∧ s.classes[e.cls].run = .running then
                          s.tallies.set e.cls
                            { s.tallies[e.cls] with
                              faults := BitVec.ofNat 24 (min (s.tallies[e.cls].faults.toNat + 1) 16777215) }
                        else s.tallies
                      fences :=
                        if drained then s.fences.set e.cls { s.fences[e.cls] with state := .fenced } else s.fences
                      sticky :=
                        { s.sticky with
                          shapeError := s.sticky.shapeError || shape
                          fenceDone := s.sticky.fenceDone || drained } } : State).judged

/-! ## Fences -/

/-- FENCE (R115): each named UNFENCED class becomes FENCED, with FENCE_DONE, or DRAINING, by whether an in-flight
entry names it; every other class is left as it is. -/
def Obligations.FenceSetsTheNamedClasses : Prop :=
  ∀ (s : State) (o : BitVec 5) (r : Bits), s.resetAsserted = false → s.receiver = .ready → 8 ≤ r.length →
    ∃ fences : Vector FenceRecord 8,
      (∀ c : ClassId,
          (r.getD c.val false = true → s.fences[c].state = .unfenced →
              fences[c] = { state := if ∃ e ∈ s.inFlight, e.cls = c then .draining else .fenced, timer := 0 })
            ∧ (r.getD c.val false = false ∨ s.fences[c].state ≠ .unfenced → fences[c] = s.fences[c]))
        ∧ exec (.fence o r) s
            = .next
                ({ s.answered (12 + r.length) .done [] with
                    fences := fences
                    sticky :=
                      if ∃ c : ClassId, r.getD c.val false = true ∧ s.fences[c].state = .unfenced
                          ∧ ∀ e ∈ s.inFlight, e.cls ≠ c then
                        { s.sticky with fenceDone := true }
                      else s.sticky } : State).judged

/-- UNFENCE (R121): every named class becomes UNFENCED with drain timer 0, whatever its state, and no event is
raised. -/
def Obligations.UnfenceFreesTheNamedClasses : Prop :=
  ∀ (s : State) (o : BitVec 5) (r : Bits), s.resetAsserted = false → s.receiver = .ready → 8 ≤ r.length →
    exec (.unfence o r) s
      = .next
          ({ s.answered (12 + r.length) .done [] with
              fences :=
                tabulate fun c : ClassId =>
                  if r.getD c.val false then { state := .unfenced, timer := 0 } else s.fences[c] } : State).judged

/-- No command or event gives a class that is not UNFENCED an in-flight entry (R114): its entries only fall. -/
def Obligations.FencedClassGainsNoEntry : Prop :=
  ∀ (i : Instr) (s t : State) (c : ClassId), exec i s = .next t → s.fences[c].state ≠ .unfenced →
    (t.inFlight.countP fun e => e.cls == c) ≤ s.inFlight.countP fun e => e.cls == c

/-! ## Resets -/

/-- HARD_RESET, RESET_RELEASE and the end of an SSEL remnant: the hard-reset values (R1, R23, R25, R54, R91, R110, R125,
R137, R154, R166, R185), written out, with RESET asserted; the release of RESET, with the tick count at 0 and an SSEL
still asserted waited out; and the receiver ready again. The model's choices here: the levels left to the outside
(log entries 5 and 13), a release with RESET negated and the end of a remnant in reset, which change nothing (log entry
12), and the queue and the model's counter, which are kept (log entries 1 and 13). -/
def Obligations.ResetPinAndRemnant : Prop :=
  ∀ s : State,
    let descriptor : Descriptor :=
      { budget := 0, period := 0, mode := .whole, lender := none, priority := 0, holdLimit := 0
        signing := false, reporting := false, seed := 0 }
    let inReset : State :=
      { map :=
          Vector.replicate 16
            { valid := false, base := 0, limit := 0, tagMatch := 0, tagMask := 0, filter := .both, cls := 0 }
        classes :=
          Vector.replicate 8
            { run := .idle, active := descriptor, staged := descriptor, credit := 0, counter := 0, number := 0 }
        divisor := 1000
        count := 0
        freeze := s.freeze
        slots := Vector.replicate 32 none
        arrival := []
        inFlight := []
        fences := Vector.replicate 8 { state := .unfenced, timer := 0 }
        drainLimit := 0
        digests := Vector.replicate 8 0
        tallies :=
          Vector.replicate 8
            { readBeats := 0, writeBeats := 0, lentBeats := 0, borrowedBeats := 0, forcedReleases := 0
              creditWaits := 0, faults := 0 }
        records := []
        nextSerial := 0
        pendingGap := 0
        receiver := .ready
        holder := { status := .empty, data := [] }
        sticky :=
          { recordDropped := false, fenceDone := false, fenceStuck := false, forcedRelease := false
            strayResponse := false, shapeError := false, linkError := false }
        enableMask :=
          { recordLevel := false, recordDropped := false, fenceDone := false, fenceStuck := false
            forcedRelease := false, strayResponse := false, shapeError := false, linkError := false }
        threshold := 48
        resetAsserted := true
        controllerReady := false
        sdo := []
        mSideOut := none
        iSideOut := none
        owedTicks := []
        refclkTicks := s.refclkTicks
        pending := s.pending }
    exec .hardReset s = .next inReset
      ∧ State.reset = { inReset with freeze := false, resetAsserted := false, refclkTicks := 0, pending := [] }
      ∧ (∀ b : Bool, s.resetAsserted = true →
          exec (.resetRelease b) s
            = .next
                ({ s with
                    resetAsserted := false
                    count := 0
                    receiver := if b then .awaitingNegation else .ready } : State).judged)
      ∧ (∀ b : Bool, s.resetAsserted = false → exec (.resetRelease b) s = .next s)
      ∧ (s.resetAsserted = false → exec .sselRemnantNegation s = .next { s with receiver := .ready })
      ∧ (s.resetAsserted = true → exec .sselRemnantNegation s = .next s)

/-- While RESET is asserted nothing but the input pins moves (R23 and its neighbours): from a state that holds the
hard-reset values, every command and event but the release of RESET leaves every other field as it is. -/
def Obligations.ResetHoldsEveryBlock : Prop :=
  ∀ (i : Instr) (s t : State), s.resetAsserted = true → s.ResetSound → (∀ b : Bool, i ≠ .resetRelease b) →
    exec i s = .next t →
      t = { s with freeze := t.freeze, controllerReady := t.controllerReady }

/-! ## Whole-machine rules -/

/-- A held request is kept (R67, R84, R87, R88, R89): whatever the command or event, but for a hard reset, it stays
in its slot with its request, class and flags, or it is the request that an ISSUE hands to the M-side unchanged and
enters in the In-Flight Table. -/
def Obligations.HeldRequestsLeaveByIssueAlone : Prop :=
  ∀ (i : Instr) (s t : State) (k : SlotId) (h : HeldSlot), exec i s = .next t → i ≠ .hardReset →
    s.slots[k] = some h →
      (∃ g : HeldSlot, t.slots[k] = some g ∧ g.request = h.request ∧ g.cls = h.cls
          ∧ (h.forced = true → g.forced = true) ∧ (h.creditWaited = true → g.creditWaited = true)
          ∧ h.wait.toNat ≤ g.wait.toNat)
        ∨ (∃ b : Bool, i = .issue b) ∧ t.slots[k] = none ∧ t.mSideOut = some h.request
          ∧ t.inFlight =
              s.inFlight ++
                [{ tag := h.request.tag
                   cls := h.cls
                   flight := if h.request.kind = .read then .read h.request.length 0 else .write }]

/-- No service-link frame touches the memory path's packets (R108, R112): the arrival order, the in-flight entries,
the ports' packets, the memory controller's readiness and every held request, class number and wait counter are as
they were. -/
def Obligations.FramesLeaveTheMemoryPathAlone : Prop :=
  ∀ (i : Instr) (bits : Bits) (s t : State), frameBits i = some bits → exec i s = .next t →
    t.arrival = s.arrival ∧ t.inFlight = s.inFlight ∧ t.mSideOut = s.mSideOut ∧ t.iSideOut = s.iSideOut
      ∧ t.controllerReady = s.controllerReady
      ∧ ∀ k : SlotId,
          (t.slots[k]).map (fun h => (h.request, h.cls, h.wait, h.forced))
            = (s.slots[k]).map fun h => (h.request, h.cls, h.wait, h.forced)

/-- No command or event touches the queue of waiting commands: `exec` acts on everything else. The queue is the
model's own (log entry 1). -/
def Obligations.ExecLeavesTheQueue : Prop :=
  ∀ (i : Instr) (s t : State), exec i s = .next t → t.pending = s.pending

/-! ## Laws that every step keeps -/

/-- The state after reset is sound: every law of `State.Sound` holds of it. Its values are those that
`ResetPinAndRemnant` writes out; those the manual does not give are the model's (log entry 5). -/
def Obligations.SoundAtReset : Prop := State.reset.Sound

/-- The lending law (R51) is kept by every step: no descriptor names its own class as lender, or a lender whose
descriptors name one. -/
def Obligations.LendingLawKept : Prop :=
  ∀ s t : State, s.LendingSound → step s = .next t → t.LendingSound

/-- The law of fences (R113, R114) is kept by every step: a FENCED class has no in-flight entries, a DRAINING or
STUCK one has, and an UNFENCED one has drain timer 0. -/
def Obligations.FenceLawKept : Prop :=
  ∀ s t : State, s.FencesSound → step s = .next t → t.FencesSound

/-- The Report Queue's law (R145) is kept by every step: at most 64 records, each serial one more than the one
before it. -/
def Obligations.SerialLawKept : Prop :=
  ∀ s t : State, s.QueueSound → step s = .next t → t.QueueSound

/-- The credit law (R6, R7) is kept by every step: credit between -15 and the budget, 0 for an IDLE or open class,
and the period counter below the period. -/
def Obligations.CreditLawKept : Prop :=
  ∀ s t : State, s.ClassesSound → s.PoolSound → step s = .next t → t.ClassesSound

/-- Every law together is kept by every step. -/
def Obligations.SoundKeptByEveryStep : Prop :=
  ∀ s t : State, s.Sound → step s = .next t → t.Sound
end

