-- ==== Sys2Proof/Laws/Bits.lean ====
section
/-! SUPPORT. Words and fields of bits (R186): spelling a word and reading a field undo each other. -/

namespace Sys2Proof

@[simp] theorem wordBits_length {w : Nat} (x : BitVec w) : (wordBits x).length = w := by simp [wordBits]

theorem wordBits_getElem {w : Nat} (x : BitVec w) (i : Nat) (h : i < (wordBits x).length) :
    (wordBits x)[i] = x.getMsbD i := by
  simp [wordBits]

theorem bitsNat_append (a b : Bits) : bitsNat (a ++ b) = bitsNat a * 2 ^ b.length + bitsNat b := by
  have fold (b : Bits) (n : Nat) :
      b.foldl (fun n b => 2 * n + b.toNat) n = n * 2 ^ b.length + b.foldl (fun n b => 2 * n + b.toNat) 0 := by
    induction b generalizing n with
    | nil => simp
    | cons x b ih =>
      simp only [List.foldl_cons, List.length_cons]
      rw [ih, ih (2 * 0 + x.toNat)]
      ring
  rw [bitsNat, List.foldl_append, fold]
  rfl

theorem bitsNat_lt (a : Bits) : bitsNat a < 2 ^ a.length := by
  induction a using List.reverseRecOn with
  | nil => simp [bitsNat]
  | append_singleton a x ih =>
    rw [bitsNat_append, List.length_append]
    have : bitsNat [x] < 2 := by cases x <;> decide
    simp only [List.length_singleton, Nat.pow_succ]
    omega

/-- The number a word's bits spell is the word's own. -/
theorem bitsNat_wordBits {w : Nat} (x : BitVec w) : bitsNat (wordBits x) = x.toNat := by
  induction w with
  | zero => simp [wordBits, bitsNat, BitVec.eq_nil x]
  | succ w ih =>
    have hx : wordBits x = wordBits (x >>> 1 |>.setWidth w) ++ [x.getLsbD 0] := by
      apply List.ext_getElem
      · simp
      · intro i h1 h2
        rw [wordBits_getElem]
        rcases Nat.lt_or_ge i w with hi | hi
        · rw [List.getElem_append_left (by simpa using hi), wordBits_getElem]
          simp only [BitVec.getMsbD_eq_getLsbD, BitVec.getLsbD_setWidth, BitVec.getLsbD_ushiftRight]
          have h3 : w + 1 - 1 - i = 1 + (w - 1 - i) := by omega
          have h4 : w - 1 - i < w := by omega
          rw [h3]
          simp only [h4, hi, Nat.lt_succ_of_lt hi, decide_true, Bool.true_and]
        · have : i = w := by simp at h1; omega
          subst this
          simp [BitVec.getMsbD_eq_getLsbD]
    rw [hx, bitsNat_append, ih]
    have hlt := x.isLt
    have : bitsNat [x.getLsbD 0] = x.toNat % 2 := by
      simp only [bitsNat, List.foldl_cons, List.foldl_nil, BitVec.getLsbD, Nat.testBit_zero]
      rcases Nat.mod_two_eq_zero_or_one x.toNat with h | h <;> simp [h]
    rw [this]
    have h5 : (x.toNat / 2) < 2 ^ w := by omega
    simp [Nat.shiftRight_eq_div_pow, Nat.mod_eq_of_lt h5]
    omega

/-- The field that a word fills is the word. -/
theorem bitField_append {w : Nat} (a b : Bits) (x : BitVec w) (pos : Nat) (h : a.length = pos) :
    bitField (a ++ wordBits x ++ b) pos w = x := by
  subst h
  simp [bitField, List.append_assoc, bitsNat_wordBits]

/-- Spelling a word that was read from enough bits gives those bits. -/
theorem wordBits_bitField (bs : Bits) (pos w : Nat) (h : pos + w ≤ bs.length) :
    wordBits (bitField bs pos w) = (bs.drop pos).take w := by
  have hl : ((bs.drop pos).take w).length = w := by simp; omega
  have inj (a b : Bits) (hab : a.length = b.length) (h : bitsNat a = bitsNat b) : a = b := by
    induction a using List.reverseRecOn generalizing b with
    | nil => exact (List.length_eq_zero_iff.mp hab.symm).symm
    | append_singleton a x ih =>
      induction b using List.reverseRecOn with
      | nil => simp at hab
      | append_singleton b y _ =>
        rw [bitsNat_append, bitsNat_append] at h
        simp only [List.length_singleton, pow_one] at h
        have hx : bitsNat [x] = x.toNat := by cases x <;> decide
        have hy : bitsNat [y] = y.toNat := by cases y <;> decide
        have hx2 : x.toNat < 2 := x.toNat_lt
        have hy2 : y.toNat < 2 := y.toNat_lt
        rw [hx, hy] at h
        have h1 : bitsNat a = bitsNat b := by omega
        have h2 : x.toNat = y.toNat := by omega
        rw [ih b (by simpa using hab) h1]
        cases x <;> cases y <;> simp_all
  apply inj
  · simp [hl]
  · have hlt := bitsNat_lt ((bs.drop pos).take w)
    rw [hl] at hlt
    rw [bitsNat_wordBits, bitField, BitVec.toNat_ofNat, Nat.mod_eq_of_lt hlt]

end Sys2Proof
end

