-- ==== Sys2Proof/Laws/State.lean ====
section
/-! SUPPORT. One lemma per field per update of `State`, so that no proof unfolds a record update. -/

namespace Sys2Proof.Machine

/-! ## State.raise -/

@[simp] theorem State.raise_map (s : State) (e : StickyEvent) : (s.raise e).map = s.map := rfl
@[simp] theorem State.raise_classes (s : State) (e : StickyEvent) : (s.raise e).classes = s.classes := rfl
@[simp] theorem State.raise_divisor (s : State) (e : StickyEvent) : (s.raise e).divisor = s.divisor := rfl
@[simp] theorem State.raise_count (s : State) (e : StickyEvent) : (s.raise e).count = s.count := rfl
@[simp] theorem State.raise_freeze (s : State) (e : StickyEvent) : (s.raise e).freeze = s.freeze := rfl
@[simp] theorem State.raise_slots (s : State) (e : StickyEvent) : (s.raise e).slots = s.slots := rfl
@[simp] theorem State.raise_arrival (s : State) (e : StickyEvent) : (s.raise e).arrival = s.arrival := rfl
@[simp] theorem State.raise_inFlight (s : State) (e : StickyEvent) : (s.raise e).inFlight = s.inFlight := rfl
@[simp] theorem State.raise_fences (s : State) (e : StickyEvent) : (s.raise e).fences = s.fences := rfl
@[simp] theorem State.raise_drainLimit (s : State) (e : StickyEvent) : (s.raise e).drainLimit = s.drainLimit := rfl
@[simp] theorem State.raise_digests (s : State) (e : StickyEvent) : (s.raise e).digests = s.digests := rfl
@[simp] theorem State.raise_tallies (s : State) (e : StickyEvent) : (s.raise e).tallies = s.tallies := rfl
@[simp] theorem State.raise_records (s : State) (e : StickyEvent) : (s.raise e).records = s.records := rfl
@[simp] theorem State.raise_nextSerial (s : State) (e : StickyEvent) : (s.raise e).nextSerial = s.nextSerial := rfl
@[simp] theorem State.raise_pendingGap (s : State) (e : StickyEvent) : (s.raise e).pendingGap = s.pendingGap := rfl
@[simp] theorem State.raise_receiver (s : State) (e : StickyEvent) : (s.raise e).receiver = s.receiver := rfl
@[simp] theorem State.raise_holder (s : State) (e : StickyEvent) : (s.raise e).holder = s.holder := rfl
@[simp] theorem State.raise_sticky (s : State) (e : StickyEvent) : (s.raise e).sticky = s.sticky.raise e := rfl
@[simp] theorem State.raise_enableMask (s : State) (e : StickyEvent) : (s.raise e).enableMask = s.enableMask := rfl
@[simp] theorem State.raise_threshold (s : State) (e : StickyEvent) : (s.raise e).threshold = s.threshold := rfl
@[simp] theorem State.raise_resetAsserted (s : State) (e : StickyEvent) :
    (s.raise e).resetAsserted = s.resetAsserted := rfl
@[simp] theorem State.raise_controllerReady (s : State) (e : StickyEvent) :
    (s.raise e).controllerReady = s.controllerReady := rfl
@[simp] theorem State.raise_sdo (s : State) (e : StickyEvent) : (s.raise e).sdo = s.sdo := rfl
@[simp] theorem State.raise_mSideOut (s : State) (e : StickyEvent) : (s.raise e).mSideOut = s.mSideOut := rfl
@[simp] theorem State.raise_iSideOut (s : State) (e : StickyEvent) : (s.raise e).iSideOut = s.iSideOut := rfl
@[simp] theorem State.raise_owedTicks (s : State) (e : StickyEvent) : (s.raise e).owedTicks = s.owedTicks := rfl
@[simp] theorem State.raise_refclkTicks (s : State) (e : StickyEvent) :
    (s.raise e).refclkTicks = s.refclkTicks := rfl
@[simp] theorem State.raise_pending (s : State) (e : StickyEvent) : (s.raise e).pending = s.pending := rfl

/-! ## State.updateClass -/

@[simp] theorem State.updateClass_map (s : State) (c : ClassId) (f : ClassRecord → ClassRecord) :
    (s.updateClass c f).map = s.map := rfl
@[simp] theorem State.updateClass_classes (s : State) (c : ClassId) (f : ClassRecord → ClassRecord) :
    (s.updateClass c f).classes = s.classes.set c (f s.classes[c]) := rfl
@[simp] theorem State.updateClass_divisor (s : State) (c : ClassId) (f : ClassRecord → ClassRecord) :
    (s.updateClass c f).divisor = s.divisor := rfl
@[simp] theorem State.updateClass_count (s : State) (c : ClassId) (f : ClassRecord → ClassRecord) :
    (s.updateClass c f).count = s.count := rfl
@[simp] theorem State.updateClass_freeze (s : State) (c : ClassId) (f : ClassRecord → ClassRecord) :
    (s.updateClass c f).freeze = s.freeze := rfl
@[simp] theorem State.updateClass_slots (s : State) (c : ClassId) (f : ClassRecord → ClassRecord) :
    (s.updateClass c f).slots = s.slots := rfl
@[simp] theorem State.updateClass_arrival (s : State) (c : ClassId) (f : ClassRecord → ClassRecord) :
    (s.updateClass c f).arrival = s.arrival := rfl
@[simp] theorem State.updateClass_inFlight (s : State) (c : ClassId) (f : ClassRecord → ClassRecord) :
    (s.updateClass c f).inFlight = s.inFlight := rfl
@[simp] theorem State.updateClass_fences (s : State) (c : ClassId) (f : ClassRecord → ClassRecord) :
    (s.updateClass c f).fences = s.fences := rfl
@[simp] theorem State.updateClass_drainLimit (s : State) (c : ClassId) (f : ClassRecord → ClassRecord) :
    (s.updateClass c f).drainLimit = s.drainLimit := rfl
@[simp] theorem State.updateClass_digests (s : State) (c : ClassId) (f : ClassRecord → ClassRecord) :
    (s.updateClass c f).digests = s.digests := rfl
@[simp] theorem State.updateClass_tallies (s : State) (c : ClassId) (f : ClassRecord → ClassRecord) :
    (s.updateClass c f).tallies = s.tallies := rfl
@[simp] theorem State.updateClass_records (s : State) (c : ClassId) (f : ClassRecord → ClassRecord) :
    (s.updateClass c f).records = s.records := rfl
@[simp] theorem State.updateClass_nextSerial (s : State) (c : ClassId) (f : ClassRecord → ClassRecord) :
    (s.updateClass c f).nextSerial = s.nextSerial := rfl
@[simp] theorem State.updateClass_pendingGap (s : State) (c : ClassId) (f : ClassRecord → ClassRecord) :
    (s.updateClass c f).pendingGap = s.pendingGap := rfl
@[simp] theorem State.updateClass_receiver (s : State) (c : ClassId) (f : ClassRecord → ClassRecord) :
    (s.updateClass c f).receiver = s.receiver := rfl
@[simp] theorem State.updateClass_holder (s : State) (c : ClassId) (f : ClassRecord → ClassRecord) :
    (s.updateClass c f).holder = s.holder := rfl
@[simp] theorem State.updateClass_sticky (s : State) (c : ClassId) (f : ClassRecord → ClassRecord) :
    (s.updateClass c f).sticky = s.sticky := rfl
@[simp] theorem State.updateClass_enableMask (s : State) (c : ClassId) (f : ClassRecord → ClassRecord) :
    (s.updateClass c f).enableMask = s.enableMask := rfl
@[simp] theorem State.updateClass_threshold (s : State) (c : ClassId) (f : ClassRecord → ClassRecord) :
    (s.updateClass c f).threshold = s.threshold := rfl
@[simp] theorem State.updateClass_resetAsserted (s : State) (c : ClassId) (f : ClassRecord → ClassRecord) :
    (s.updateClass c f).resetAsserted = s.resetAsserted := rfl
@[simp] theorem State.updateClass_controllerReady (s : State) (c : ClassId) (f : ClassRecord → ClassRecord) :
    (s.updateClass c f).controllerReady = s.controllerReady := rfl
@[simp] theorem State.updateClass_sdo (s : State) (c : ClassId) (f : ClassRecord → ClassRecord) :
    (s.updateClass c f).sdo = s.sdo := rfl
@[simp] theorem State.updateClass_mSideOut (s : State) (c : ClassId) (f : ClassRecord → ClassRecord) :
    (s.updateClass c f).mSideOut = s.mSideOut := rfl
@[simp] theorem State.updateClass_iSideOut (s : State) (c : ClassId) (f : ClassRecord → ClassRecord) :
    (s.updateClass c f).iSideOut = s.iSideOut := rfl
@[simp] theorem State.updateClass_owedTicks (s : State) (c : ClassId) (f : ClassRecord → ClassRecord) :
    (s.updateClass c f).owedTicks = s.owedTicks := rfl
@[simp] theorem State.updateClass_refclkTicks (s : State) (c : ClassId) (f : ClassRecord → ClassRecord) :
    (s.updateClass c f).refclkTicks = s.refclkTicks := rfl
@[simp] theorem State.updateClass_pending (s : State) (c : ClassId) (f : ClassRecord → ClassRecord) :
    (s.updateClass c f).pending = s.pending := rfl

/-! ## State.updateTally -/

@[simp] theorem State.updateTally_map (s : State) (c : ClassId) (f : Tally → Tally) :
    (s.updateTally c f).map = s.map := rfl
@[simp] theorem State.updateTally_classes (s : State) (c : ClassId) (f : Tally → Tally) :
    (s.updateTally c f).classes = s.classes := rfl
@[simp] theorem State.updateTally_divisor (s : State) (c : ClassId) (f : Tally → Tally) :
    (s.updateTally c f).divisor = s.divisor := rfl
@[simp] theorem State.updateTally_count (s : State) (c : ClassId) (f : Tally → Tally) :
    (s.updateTally c f).count = s.count := rfl
@[simp] theorem State.updateTally_freeze (s : State) (c : ClassId) (f : Tally → Tally) :
    (s.updateTally c f).freeze = s.freeze := rfl
@[simp] theorem State.updateTally_slots (s : State) (c : ClassId) (f : Tally → Tally) :
    (s.updateTally c f).slots = s.slots := rfl
@[simp] theorem State.updateTally_arrival (s : State) (c : ClassId) (f : Tally → Tally) :
    (s.updateTally c f).arrival = s.arrival := rfl
@[simp] theorem State.updateTally_inFlight (s : State) (c : ClassId) (f : Tally → Tally) :
    (s.updateTally c f).inFlight = s.inFlight := rfl
@[simp] theorem State.updateTally_fences (s : State) (c : ClassId) (f : Tally → Tally) :
    (s.updateTally c f).fences = s.fences := rfl
@[simp] theorem State.updateTally_drainLimit (s : State) (c : ClassId) (f : Tally → Tally) :
    (s.updateTally c f).drainLimit = s.drainLimit := rfl
@[simp] theorem State.updateTally_digests (s : State) (c : ClassId) (f : Tally → Tally) :
    (s.updateTally c f).digests = s.digests := rfl
@[simp] theorem State.updateTally_tallies (s : State) (c : ClassId) (f : Tally → Tally) :
    (s.updateTally c f).tallies = s.tallies.set c (f s.tallies[c]) := rfl
@[simp] theorem State.updateTally_records (s : State) (c : ClassId) (f : Tally → Tally) :
    (s.updateTally c f).records = s.records := rfl
@[simp] theorem State.updateTally_nextSerial (s : State) (c : ClassId) (f : Tally → Tally) :
    (s.updateTally c f).nextSerial = s.nextSerial := rfl
@[simp] theorem State.updateTally_pendingGap (s : State) (c : ClassId) (f : Tally → Tally) :
    (s.updateTally c f).pendingGap = s.pendingGap := rfl
@[simp] theorem State.updateTally_receiver (s : State) (c : ClassId) (f : Tally → Tally) :
    (s.updateTally c f).receiver = s.receiver := rfl
@[simp] theorem State.updateTally_holder (s : State) (c : ClassId) (f : Tally → Tally) :
    (s.updateTally c f).holder = s.holder := rfl
@[simp] theorem State.updateTally_sticky (s : State) (c : ClassId) (f : Tally → Tally) :
    (s.updateTally c f).sticky = s.sticky := rfl
@[simp] theorem State.updateTally_enableMask (s : State) (c : ClassId) (f : Tally → Tally) :
    (s.updateTally c f).enableMask = s.enableMask := rfl
@[simp] theorem State.updateTally_threshold (s : State) (c : ClassId) (f : Tally → Tally) :
    (s.updateTally c f).threshold = s.threshold := rfl
@[simp] theorem State.updateTally_resetAsserted (s : State) (c : ClassId) (f : Tally → Tally) :
    (s.updateTally c f).resetAsserted = s.resetAsserted := rfl
@[simp] theorem State.updateTally_controllerReady (s : State) (c : ClassId) (f : Tally → Tally) :
    (s.updateTally c f).controllerReady = s.controllerReady := rfl
@[simp] theorem State.updateTally_sdo (s : State) (c : ClassId) (f : Tally → Tally) :
    (s.updateTally c f).sdo = s.sdo := rfl
@[simp] theorem State.updateTally_mSideOut (s : State) (c : ClassId) (f : Tally → Tally) :
    (s.updateTally c f).mSideOut = s.mSideOut := rfl
@[simp] theorem State.updateTally_iSideOut (s : State) (c : ClassId) (f : Tally → Tally) :
    (s.updateTally c f).iSideOut = s.iSideOut := rfl
@[simp] theorem State.updateTally_owedTicks (s : State) (c : ClassId) (f : Tally → Tally) :
    (s.updateTally c f).owedTicks = s.owedTicks := rfl
@[simp] theorem State.updateTally_refclkTicks (s : State) (c : ClassId) (f : Tally → Tally) :
    (s.updateTally c f).refclkTicks = s.refclkTicks := rfl
@[simp] theorem State.updateTally_pending (s : State) (c : ClassId) (f : Tally → Tally) :
    (s.updateTally c f).pending = s.pending := rfl

/-! ## State.startPeriod -/

@[simp] theorem State.startPeriod_map (s : State) (c : ClassId) : (s.startPeriod c).map = s.map := rfl
@[simp] theorem State.startPeriod_classes (s : State) (c : ClassId) : (s.startPeriod c).classes = s.classes := rfl
@[simp] theorem State.startPeriod_divisor (s : State) (c : ClassId) : (s.startPeriod c).divisor = s.divisor := rfl
@[simp] theorem State.startPeriod_count (s : State) (c : ClassId) : (s.startPeriod c).count = s.count := rfl
@[simp] theorem State.startPeriod_freeze (s : State) (c : ClassId) : (s.startPeriod c).freeze = s.freeze := rfl
@[simp] theorem State.startPeriod_slots (s : State) (c : ClassId) : (s.startPeriod c).slots = s.slots := rfl
@[simp] theorem State.startPeriod_arrival (s : State) (c : ClassId) : (s.startPeriod c).arrival = s.arrival := rfl
@[simp] theorem State.startPeriod_inFlight (s : State) (c : ClassId) :
    (s.startPeriod c).inFlight = s.inFlight := rfl
@[simp] theorem State.startPeriod_fences (s : State) (c : ClassId) : (s.startPeriod c).fences = s.fences := rfl
@[simp] theorem State.startPeriod_drainLimit (s : State) (c : ClassId) :
    (s.startPeriod c).drainLimit = s.drainLimit := rfl
@[simp] theorem State.startPeriod_digests (s : State) (c : ClassId) :
    (s.startPeriod c).digests = s.digests.set c s.classes[c].active.seed := rfl
@[simp] theorem State.startPeriod_tallies (s : State) (c : ClassId) :
    (s.startPeriod c).tallies = s.tallies.set c .zero := rfl
@[simp] theorem State.startPeriod_records (s : State) (c : ClassId) : (s.startPeriod c).records = s.records := rfl
@[simp] theorem State.startPeriod_nextSerial (s : State) (c : ClassId) :
    (s.startPeriod c).nextSerial = s.nextSerial := rfl
@[simp] theorem State.startPeriod_pendingGap (s : State) (c : ClassId) :
    (s.startPeriod c).pendingGap = s.pendingGap := rfl
@[simp] theorem State.startPeriod_receiver (s : State) (c : ClassId) :
    (s.startPeriod c).receiver = s.receiver := rfl
@[simp] theorem State.startPeriod_holder (s : State) (c : ClassId) : (s.startPeriod c).holder = s.holder := rfl
@[simp] theorem State.startPeriod_sticky (s : State) (c : ClassId) : (s.startPeriod c).sticky = s.sticky := rfl
@[simp] theorem State.startPeriod_enableMask (s : State) (c : ClassId) :
    (s.startPeriod c).enableMask = s.enableMask := rfl
@[simp] theorem State.startPeriod_threshold (s : State) (c : ClassId) :
    (s.startPeriod c).threshold = s.threshold := rfl
@[simp] theorem State.startPeriod_resetAsserted (s : State) (c : ClassId) :
    (s.startPeriod c).resetAsserted = s.resetAsserted := rfl
@[simp] theorem State.startPeriod_controllerReady (s : State) (c : ClassId) :
    (s.startPeriod c).controllerReady = s.controllerReady := rfl
@[simp] theorem State.startPeriod_sdo (s : State) (c : ClassId) : (s.startPeriod c).sdo = s.sdo := rfl
@[simp] theorem State.startPeriod_mSideOut (s : State) (c : ClassId) :
    (s.startPeriod c).mSideOut = s.mSideOut := rfl
@[simp] theorem State.startPeriod_iSideOut (s : State) (c : ClassId) :
    (s.startPeriod c).iSideOut = s.iSideOut := rfl
@[simp] theorem State.startPeriod_owedTicks (s : State) (c : ClassId) :
    (s.startPeriod c).owedTicks = s.owedTicks := rfl
@[simp] theorem State.startPeriod_refclkTicks (s : State) (c : ClassId) :
    (s.startPeriod c).refclkTicks = s.refclkTicks := rfl
@[simp] theorem State.startPeriod_pending (s : State) (c : ClassId) : (s.startPeriod c).pending = s.pending := rfl

/-! ## State.sendOut -/

@[simp] theorem State.sendOut_map (s : State) (k : SlotId) (h : HeldSlot) : (s.sendOut k h).map = s.map := rfl
@[simp] theorem State.sendOut_classes (s : State) (k : SlotId) (h : HeldSlot) :
    (s.sendOut k h).classes = s.classes := rfl
@[simp] theorem State.sendOut_divisor (s : State) (k : SlotId) (h : HeldSlot) :
    (s.sendOut k h).divisor = s.divisor := rfl
@[simp] theorem State.sendOut_count (s : State) (k : SlotId) (h : HeldSlot) :
    (s.sendOut k h).count = s.count := rfl
@[simp] theorem State.sendOut_freeze (s : State) (k : SlotId) (h : HeldSlot) :
    (s.sendOut k h).freeze = s.freeze := rfl
@[simp] theorem State.sendOut_slots (s : State) (k : SlotId) (h : HeldSlot) :
    (s.sendOut k h).slots = s.slots.set k none := rfl
@[simp] theorem State.sendOut_arrival (s : State) (k : SlotId) (h : HeldSlot) :
    (s.sendOut k h).arrival = s.arrival.filter fun j => j != k := rfl
@[simp] theorem State.sendOut_inFlight (s : State) (k : SlotId) (h : HeldSlot) :
    (s.sendOut k h).inFlight = s.inFlight ++ [h.entry] := rfl
@[simp] theorem State.sendOut_fences (s : State) (k : SlotId) (h : HeldSlot) :
    (s.sendOut k h).fences = s.fences := rfl
@[simp] theorem State.sendOut_drainLimit (s : State) (k : SlotId) (h : HeldSlot) :
    (s.sendOut k h).drainLimit = s.drainLimit := rfl
@[simp] theorem State.sendOut_digests (s : State) (k : SlotId) (h : HeldSlot) :
    (s.sendOut k h).digests = s.digests := rfl
@[simp] theorem State.sendOut_tallies (s : State) (k : SlotId) (h : HeldSlot) :
    (s.sendOut k h).tallies = s.tallies := rfl
@[simp] theorem State.sendOut_records (s : State) (k : SlotId) (h : HeldSlot) :
    (s.sendOut k h).records = s.records := rfl
@[simp] theorem State.sendOut_nextSerial (s : State) (k : SlotId) (h : HeldSlot) :
    (s.sendOut k h).nextSerial = s.nextSerial := rfl
@[simp] theorem State.sendOut_pendingGap (s : State) (k : SlotId) (h : HeldSlot) :
    (s.sendOut k h).pendingGap = s.pendingGap := rfl
@[simp] theorem State.sendOut_receiver (s : State) (k : SlotId) (h : HeldSlot) :
    (s.sendOut k h).receiver = s.receiver := rfl
@[simp] theorem State.sendOut_holder (s : State) (k : SlotId) (h : HeldSlot) :
    (s.sendOut k h).holder = s.holder := rfl
@[simp] theorem State.sendOut_sticky (s : State) (k : SlotId) (h : HeldSlot) :
    (s.sendOut k h).sticky = s.sticky := rfl
@[simp] theorem State.sendOut_enableMask (s : State) (k : SlotId) (h : HeldSlot) :
    (s.sendOut k h).enableMask = s.enableMask := rfl
@[simp] theorem State.sendOut_threshold (s : State) (k : SlotId) (h : HeldSlot) :
    (s.sendOut k h).threshold = s.threshold := rfl
@[simp] theorem State.sendOut_resetAsserted (s : State) (k : SlotId) (h : HeldSlot) :
    (s.sendOut k h).resetAsserted = s.resetAsserted := rfl
@[simp] theorem State.sendOut_controllerReady (s : State) (k : SlotId) (h : HeldSlot) :
    (s.sendOut k h).controllerReady = s.controllerReady := rfl
@[simp] theorem State.sendOut_sdo (s : State) (k : SlotId) (h : HeldSlot) : (s.sendOut k h).sdo = s.sdo := rfl
@[simp] theorem State.sendOut_mSideOut (s : State) (k : SlotId) (h : HeldSlot) :
    (s.sendOut k h).mSideOut = some h.request := rfl
@[simp] theorem State.sendOut_iSideOut (s : State) (k : SlotId) (h : HeldSlot) :
    (s.sendOut k h).iSideOut = s.iSideOut := rfl
@[simp] theorem State.sendOut_owedTicks (s : State) (k : SlotId) (h : HeldSlot) :
    (s.sendOut k h).owedTicks = s.owedTicks := rfl
@[simp] theorem State.sendOut_refclkTicks (s : State) (k : SlotId) (h : HeldSlot) :
    (s.sendOut k h).refclkTicks = s.refclkTicks := rfl
@[simp] theorem State.sendOut_pending (s : State) (k : SlotId) (h : HeldSlot) :
    (s.sendOut k h).pending = s.pending := rfl

/-! ## State.load -/

@[simp] theorem State.load_map (s : State) (st : Status) (data : Bits) : (s.load st data).map = s.map := rfl
@[simp] theorem State.load_classes (s : State) (st : Status) (data : Bits) :
    (s.load st data).classes = s.classes := rfl
@[simp] theorem State.load_divisor (s : State) (st : Status) (data : Bits) :
    (s.load st data).divisor = s.divisor := rfl
@[simp] theorem State.load_count (s : State) (st : Status) (data : Bits) : (s.load st data).count = s.count := rfl
@[simp] theorem State.load_freeze (s : State) (st : Status) (data : Bits) :
    (s.load st data).freeze = s.freeze := rfl
@[simp] theorem State.load_slots (s : State) (st : Status) (data : Bits) : (s.load st data).slots = s.slots := rfl
@[simp] theorem State.load_arrival (s : State) (st : Status) (data : Bits) :
    (s.load st data).arrival = s.arrival := rfl
@[simp] theorem State.load_inFlight (s : State) (st : Status) (data : Bits) :
    (s.load st data).inFlight = s.inFlight := rfl
@[simp] theorem State.load_fences (s : State) (st : Status) (data : Bits) :
    (s.load st data).fences = s.fences := rfl
@[simp] theorem State.load_drainLimit (s : State) (st : Status) (data : Bits) :
    (s.load st data).drainLimit = s.drainLimit := rfl
@[simp] theorem State.load_digests (s : State) (st : Status) (data : Bits) :
    (s.load st data).digests = s.digests := rfl
@[simp] theorem State.load_tallies (s : State) (st : Status) (data : Bits) :
    (s.load st data).tallies = s.tallies := rfl
@[simp] theorem State.load_records (s : State) (st : Status) (data : Bits) :
    (s.load st data).records = s.records := rfl
@[simp] theorem State.load_nextSerial (s : State) (st : Status) (data : Bits) :
    (s.load st data).nextSerial = s.nextSerial := rfl
@[simp] theorem State.load_pendingGap (s : State) (st : Status) (data : Bits) :
    (s.load st data).pendingGap = s.pendingGap := rfl
@[simp] theorem State.load_receiver (s : State) (st : Status) (data : Bits) :
    (s.load st data).receiver = s.receiver := rfl
@[simp] theorem State.load_holder (s : State) (st : Status) (data : Bits) :
    (s.load st data).holder = { status := st, data := data } := rfl
@[simp] theorem State.load_sticky (s : State) (st : Status) (data : Bits) :
    (s.load st data).sticky = s.sticky := rfl
@[simp] theorem State.load_enableMask (s : State) (st : Status) (data : Bits) :
    (s.load st data).enableMask = s.enableMask := rfl
@[simp] theorem State.load_threshold (s : State) (st : Status) (data : Bits) :
    (s.load st data).threshold = s.threshold := rfl
@[simp] theorem State.load_resetAsserted (s : State) (st : Status) (data : Bits) :
    (s.load st data).resetAsserted = s.resetAsserted := rfl
@[simp] theorem State.load_controllerReady (s : State) (st : Status) (data : Bits) :
    (s.load st data).controllerReady = s.controllerReady := rfl
@[simp] theorem State.load_sdo (s : State) (st : Status) (data : Bits) : (s.load st data).sdo = s.sdo := rfl
@[simp] theorem State.load_mSideOut (s : State) (st : Status) (data : Bits) :
    (s.load st data).mSideOut = s.mSideOut := rfl
@[simp] theorem State.load_iSideOut (s : State) (st : Status) (data : Bits) :
    (s.load st data).iSideOut = s.iSideOut := rfl
@[simp] theorem State.load_owedTicks (s : State) (st : Status) (data : Bits) :
    (s.load st data).owedTicks = s.owedTicks := rfl
@[simp] theorem State.load_refclkTicks (s : State) (st : Status) (data : Bits) :
    (s.load st data).refclkTicks = s.refclkTicks := rfl
@[simp] theorem State.load_pending (s : State) (st : Status) (data : Bits) :
    (s.load st data).pending = s.pending := rfl

/-! ## State.shiftOut -/

@[simp] theorem State.shiftOut_map (s : State) (n : Nat) : (s.shiftOut n).map = s.map := rfl
@[simp] theorem State.shiftOut_classes (s : State) (n : Nat) : (s.shiftOut n).classes = s.classes := rfl
@[simp] theorem State.shiftOut_divisor (s : State) (n : Nat) : (s.shiftOut n).divisor = s.divisor := rfl
@[simp] theorem State.shiftOut_count (s : State) (n : Nat) : (s.shiftOut n).count = s.count := rfl
@[simp] theorem State.shiftOut_freeze (s : State) (n : Nat) : (s.shiftOut n).freeze = s.freeze := rfl
@[simp] theorem State.shiftOut_slots (s : State) (n : Nat) : (s.shiftOut n).slots = s.slots := rfl
@[simp] theorem State.shiftOut_arrival (s : State) (n : Nat) : (s.shiftOut n).arrival = s.arrival := rfl
@[simp] theorem State.shiftOut_inFlight (s : State) (n : Nat) : (s.shiftOut n).inFlight = s.inFlight := rfl
@[simp] theorem State.shiftOut_fences (s : State) (n : Nat) : (s.shiftOut n).fences = s.fences := rfl
@[simp] theorem State.shiftOut_drainLimit (s : State) (n : Nat) : (s.shiftOut n).drainLimit = s.drainLimit := rfl
@[simp] theorem State.shiftOut_digests (s : State) (n : Nat) : (s.shiftOut n).digests = s.digests := rfl
@[simp] theorem State.shiftOut_tallies (s : State) (n : Nat) : (s.shiftOut n).tallies = s.tallies := rfl
@[simp] theorem State.shiftOut_records (s : State) (n : Nat) : (s.shiftOut n).records = s.records := rfl
@[simp] theorem State.shiftOut_nextSerial (s : State) (n : Nat) : (s.shiftOut n).nextSerial = s.nextSerial := rfl
@[simp] theorem State.shiftOut_pendingGap (s : State) (n : Nat) : (s.shiftOut n).pendingGap = s.pendingGap := rfl
@[simp] theorem State.shiftOut_receiver (s : State) (n : Nat) : (s.shiftOut n).receiver = s.receiver := rfl
@[simp] theorem State.shiftOut_holder (s : State) (n : Nat) : (s.shiftOut n).holder = s.holder := rfl
@[simp] theorem State.shiftOut_sticky (s : State) (n : Nat) : (s.shiftOut n).sticky = s.sticky := rfl
@[simp] theorem State.shiftOut_enableMask (s : State) (n : Nat) : (s.shiftOut n).enableMask = s.enableMask := rfl
@[simp] theorem State.shiftOut_threshold (s : State) (n : Nat) : (s.shiftOut n).threshold = s.threshold := rfl
@[simp] theorem State.shiftOut_resetAsserted (s : State) (n : Nat) :
    (s.shiftOut n).resetAsserted = s.resetAsserted := rfl
@[simp] theorem State.shiftOut_controllerReady (s : State) (n : Nat) :
    (s.shiftOut n).controllerReady = s.controllerReady := rfl
@[simp] theorem State.shiftOut_sdo (s : State) (n : Nat) : (s.shiftOut n).sdo = s.holder.shifted n := rfl
@[simp] theorem State.shiftOut_mSideOut (s : State) (n : Nat) : (s.shiftOut n).mSideOut = s.mSideOut := rfl
@[simp] theorem State.shiftOut_iSideOut (s : State) (n : Nat) : (s.shiftOut n).iSideOut = s.iSideOut := rfl
@[simp] theorem State.shiftOut_owedTicks (s : State) (n : Nat) : (s.shiftOut n).owedTicks = s.owedTicks := rfl
@[simp] theorem State.shiftOut_refclkTicks (s : State) (n : Nat) :
    (s.shiftOut n).refclkTicks = s.refclkTicks := rfl
@[simp] theorem State.shiftOut_pending (s : State) (n : Nat) : (s.shiftOut n).pending = s.pending := rfl

/-! ## State.judge -/

@[simp] theorem State.judge_map (s : State) : (s.judge).map = s.map := rfl
@[simp] theorem State.judge_classes (s : State) : (s.judge).classes = s.classes := rfl
@[simp] theorem State.judge_divisor (s : State) : (s.judge).divisor = s.divisor := rfl
@[simp] theorem State.judge_count (s : State) : (s.judge).count = s.count := rfl
@[simp] theorem State.judge_freeze (s : State) : (s.judge).freeze = s.freeze := rfl
@[simp] theorem State.judge_slots (s : State) :
    (s.judge).slots = tabulate fun k => (s.slots[k]).map (s.judgeSlot k) := rfl
@[simp] theorem State.judge_arrival (s : State) : (s.judge).arrival = s.arrival := rfl
@[simp] theorem State.judge_inFlight (s : State) : (s.judge).inFlight = s.inFlight := rfl
@[simp] theorem State.judge_fences (s : State) : (s.judge).fences = s.fences := rfl
@[simp] theorem State.judge_drainLimit (s : State) : (s.judge).drainLimit = s.drainLimit := rfl
@[simp] theorem State.judge_digests (s : State) : (s.judge).digests = s.digests := rfl
@[simp] theorem State.judge_tallies (s : State) : (s.judge).tallies = s.tallies := rfl
@[simp] theorem State.judge_records (s : State) : (s.judge).records = s.records := rfl
@[simp] theorem State.judge_nextSerial (s : State) : (s.judge).nextSerial = s.nextSerial := rfl
@[simp] theorem State.judge_pendingGap (s : State) : (s.judge).pendingGap = s.pendingGap := rfl
@[simp] theorem State.judge_receiver (s : State) : (s.judge).receiver = s.receiver := rfl
@[simp] theorem State.judge_holder (s : State) : (s.judge).holder = s.holder := rfl
@[simp] theorem State.judge_sticky (s : State) : (s.judge).sticky = s.sticky := rfl
@[simp] theorem State.judge_enableMask (s : State) : (s.judge).enableMask = s.enableMask := rfl
@[simp] theorem State.judge_threshold (s : State) : (s.judge).threshold = s.threshold := rfl
@[simp] theorem State.judge_resetAsserted (s : State) : (s.judge).resetAsserted = s.resetAsserted := rfl
@[simp] theorem State.judge_controllerReady (s : State) : (s.judge).controllerReady = s.controllerReady := rfl
@[simp] theorem State.judge_sdo (s : State) : (s.judge).sdo = s.sdo := rfl
@[simp] theorem State.judge_mSideOut (s : State) : (s.judge).mSideOut = s.mSideOut := rfl
@[simp] theorem State.judge_iSideOut (s : State) : (s.judge).iSideOut = s.iSideOut := rfl
@[simp] theorem State.judge_owedTicks (s : State) : (s.judge).owedTicks = s.owedTicks := rfl
@[simp] theorem State.judge_refclkTicks (s : State) : (s.judge).refclkTicks = s.refclkTicks := rfl
@[simp] theorem State.judge_pending (s : State) : (s.judge).pending = s.pending := rfl

/-! ## State.setControls -/

@[simp] theorem State.setControls_map (s : State) (c : Controls) : (s.setControls c).map = s.map := rfl
@[simp] theorem State.setControls_classes (s : State) (c : Controls) : (s.setControls c).classes = s.classes := rfl
@[simp] theorem State.setControls_divisor (s : State) (c : Controls) : (s.setControls c).divisor = c.divisor := rfl
@[simp] theorem State.setControls_count (s : State) (c : Controls) : (s.setControls c).count = 0 := rfl
@[simp] theorem State.setControls_freeze (s : State) (c : Controls) : (s.setControls c).freeze = s.freeze := rfl
@[simp] theorem State.setControls_slots (s : State) (c : Controls) : (s.setControls c).slots = s.slots := rfl
@[simp] theorem State.setControls_arrival (s : State) (c : Controls) : (s.setControls c).arrival = s.arrival := rfl
@[simp] theorem State.setControls_inFlight (s : State) (c : Controls) :
    (s.setControls c).inFlight = s.inFlight := rfl
@[simp] theorem State.setControls_fences (s : State) (c : Controls) : (s.setControls c).fences = s.fences := rfl
@[simp] theorem State.setControls_drainLimit (s : State) (c : Controls) :
    (s.setControls c).drainLimit = c.drainLimit := rfl
@[simp] theorem State.setControls_digests (s : State) (c : Controls) : (s.setControls c).digests = s.digests := rfl
@[simp] theorem State.setControls_tallies (s : State) (c : Controls) : (s.setControls c).tallies = s.tallies := rfl
@[simp] theorem State.setControls_records (s : State) (c : Controls) : (s.setControls c).records = s.records := rfl
@[simp] theorem State.setControls_nextSerial (s : State) (c : Controls) :
    (s.setControls c).nextSerial = s.nextSerial := rfl
@[simp] theorem State.setControls_pendingGap (s : State) (c : Controls) :
    (s.setControls c).pendingGap = s.pendingGap := rfl
@[simp] theorem State.setControls_receiver (s : State) (c : Controls) :
    (s.setControls c).receiver = s.receiver := rfl
@[simp] theorem State.setControls_holder (s : State) (c : Controls) : (s.setControls c).holder = s.holder := rfl
@[simp] theorem State.setControls_sticky (s : State) (c : Controls) : (s.setControls c).sticky = s.sticky := rfl
@[simp] theorem State.setControls_enableMask (s : State) (c : Controls) :
    (s.setControls c).enableMask = c.mask := rfl
@[simp] theorem State.setControls_threshold (s : State) (c : Controls) :
    (s.setControls c).threshold = c.threshold := rfl
@[simp] theorem State.setControls_resetAsserted (s : State) (c : Controls) :
    (s.setControls c).resetAsserted = s.resetAsserted := rfl
@[simp] theorem State.setControls_controllerReady (s : State) (c : Controls) :
    (s.setControls c).controllerReady = s.controllerReady := rfl
@[simp] theorem State.setControls_sdo (s : State) (c : Controls) : (s.setControls c).sdo = s.sdo := rfl
@[simp] theorem State.setControls_mSideOut (s : State) (c : Controls) :
    (s.setControls c).mSideOut = s.mSideOut := rfl
@[simp] theorem State.setControls_iSideOut (s : State) (c : Controls) :
    (s.setControls c).iSideOut = s.iSideOut := rfl
@[simp] theorem State.setControls_owedTicks (s : State) (c : Controls) :
    (s.setControls c).owedTicks = s.owedTicks := rfl
@[simp] theorem State.setControls_refclkTicks (s : State) (c : Controls) :
    (s.setControls c).refclkTicks = s.refclkTicks := rfl
@[simp] theorem State.setControls_pending (s : State) (c : Controls) : (s.setControls c).pending = s.pending := rfl

/-! ## State.clearRegulation -/

@[simp] theorem State.clearRegulation_map (s : State) : (s.clearRegulation).map = Vector.replicate 16 .reset := rfl
@[simp] theorem State.clearRegulation_classes (s : State) :
    (s.clearRegulation).classes = Vector.replicate 8 .reset := rfl
@[simp] theorem State.clearRegulation_divisor (s : State) : (s.clearRegulation).divisor = s.divisor := rfl
@[simp] theorem State.clearRegulation_count (s : State) : (s.clearRegulation).count = s.count := rfl
@[simp] theorem State.clearRegulation_freeze (s : State) : (s.clearRegulation).freeze = s.freeze := rfl
@[simp] theorem State.clearRegulation_slots (s : State) : (s.clearRegulation).slots = s.slots := rfl
@[simp] theorem State.clearRegulation_arrival (s : State) : (s.clearRegulation).arrival = s.arrival := rfl
@[simp] theorem State.clearRegulation_inFlight (s : State) : (s.clearRegulation).inFlight = s.inFlight := rfl
@[simp] theorem State.clearRegulation_fences (s : State) :
    (s.clearRegulation).fences = Vector.replicate 8 .reset := rfl
@[simp] theorem State.clearRegulation_drainLimit (s : State) : (s.clearRegulation).drainLimit = s.drainLimit := rfl
@[simp] theorem State.clearRegulation_digests (s : State) :
    (s.clearRegulation).digests = Vector.replicate 8 0 := rfl
@[simp] theorem State.clearRegulation_tallies (s : State) :
    (s.clearRegulation).tallies = Vector.replicate 8 .zero := rfl
@[simp] theorem State.clearRegulation_records (s : State) : (s.clearRegulation).records = [] := rfl
@[simp] theorem State.clearRegulation_nextSerial (s : State) : (s.clearRegulation).nextSerial = 0 := rfl
@[simp] theorem State.clearRegulation_pendingGap (s : State) : (s.clearRegulation).pendingGap = 0 := rfl
@[simp] theorem State.clearRegulation_receiver (s : State) : (s.clearRegulation).receiver = s.receiver := rfl
@[simp] theorem State.clearRegulation_holder (s : State) : (s.clearRegulation).holder = s.holder := rfl
@[simp] theorem State.clearRegulation_sticky (s : State) : (s.clearRegulation).sticky = s.sticky := rfl
@[simp] theorem State.clearRegulation_enableMask (s : State) : (s.clearRegulation).enableMask = s.enableMask := rfl
@[simp] theorem State.clearRegulation_threshold (s : State) : (s.clearRegulation).threshold = s.threshold := rfl
@[simp] theorem State.clearRegulation_resetAsserted (s : State) :
    (s.clearRegulation).resetAsserted = s.resetAsserted := rfl
@[simp] theorem State.clearRegulation_controllerReady (s : State) :
    (s.clearRegulation).controllerReady = s.controllerReady := rfl
@[simp] theorem State.clearRegulation_sdo (s : State) : (s.clearRegulation).sdo = s.sdo := rfl
@[simp] theorem State.clearRegulation_mSideOut (s : State) : (s.clearRegulation).mSideOut = s.mSideOut := rfl
@[simp] theorem State.clearRegulation_iSideOut (s : State) : (s.clearRegulation).iSideOut = s.iSideOut := rfl
@[simp] theorem State.clearRegulation_owedTicks (s : State) : (s.clearRegulation).owedTicks = s.owedTicks := rfl
@[simp] theorem State.clearRegulation_refclkTicks (s : State) :
    (s.clearRegulation).refclkTicks = s.refclkTicks := rfl
@[simp] theorem State.clearRegulation_pending (s : State) : (s.clearRegulation).pending = s.pending := rfl

/-! ## State.acceptInto -/

@[simp] theorem State.acceptInto_map (s : State) (k : SlotId) (r : Request) : (s.acceptInto k r).map = s.map := rfl
@[simp] theorem State.acceptInto_classes (s : State) (k : SlotId) (r : Request) :
    (s.acceptInto k r).classes = s.classes := rfl
@[simp] theorem State.acceptInto_divisor (s : State) (k : SlotId) (r : Request) :
    (s.acceptInto k r).divisor = s.divisor := rfl
@[simp] theorem State.acceptInto_count (s : State) (k : SlotId) (r : Request) :
    (s.acceptInto k r).count = s.count := rfl
@[simp] theorem State.acceptInto_freeze (s : State) (k : SlotId) (r : Request) :
    (s.acceptInto k r).freeze = s.freeze := rfl
@[simp] theorem State.acceptInto_slots (s : State) (k : SlotId) (r : Request) :
    (s.acceptInto k r).slots = s.slots.set k (some (s.freshSlot r)) := rfl
@[simp] theorem State.acceptInto_arrival (s : State) (k : SlotId) (r : Request) :
    (s.acceptInto k r).arrival = s.arrival ++ [k] := rfl
@[simp] theorem State.acceptInto_inFlight (s : State) (k : SlotId) (r : Request) :
    (s.acceptInto k r).inFlight = s.inFlight := rfl
@[simp] theorem State.acceptInto_fences (s : State) (k : SlotId) (r : Request) :
    (s.acceptInto k r).fences = s.fences := rfl
@[simp] theorem State.acceptInto_drainLimit (s : State) (k : SlotId) (r : Request) :
    (s.acceptInto k r).drainLimit = s.drainLimit := rfl
@[simp] theorem State.acceptInto_digests (s : State) (k : SlotId) (r : Request) :
    (s.acceptInto k r).digests = s.digests := rfl
@[simp] theorem State.acceptInto_tallies (s : State) (k : SlotId) (r : Request) :
    (s.acceptInto k r).tallies = s.tallies := rfl
@[simp] theorem State.acceptInto_records (s : State) (k : SlotId) (r : Request) :
    (s.acceptInto k r).records = s.records := rfl
@[simp] theorem State.acceptInto_nextSerial (s : State) (k : SlotId) (r : Request) :
    (s.acceptInto k r).nextSerial = s.nextSerial := rfl
@[simp] theorem State.acceptInto_pendingGap (s : State) (k : SlotId) (r : Request) :
    (s.acceptInto k r).pendingGap = s.pendingGap := rfl
@[simp] theorem State.acceptInto_receiver (s : State) (k : SlotId) (r : Request) :
    (s.acceptInto k r).receiver = s.receiver := rfl
@[simp] theorem State.acceptInto_holder (s : State) (k : SlotId) (r : Request) :
    (s.acceptInto k r).holder = s.holder := rfl
@[simp] theorem State.acceptInto_sticky (s : State) (k : SlotId) (r : Request) :
    (s.acceptInto k r).sticky = s.sticky := rfl
@[simp] theorem State.acceptInto_enableMask (s : State) (k : SlotId) (r : Request) :
    (s.acceptInto k r).enableMask = s.enableMask := rfl
@[simp] theorem State.acceptInto_threshold (s : State) (k : SlotId) (r : Request) :
    (s.acceptInto k r).threshold = s.threshold := rfl
@[simp] theorem State.acceptInto_resetAsserted (s : State) (k : SlotId) (r : Request) :
    (s.acceptInto k r).resetAsserted = s.resetAsserted := rfl
@[simp] theorem State.acceptInto_controllerReady (s : State) (k : SlotId) (r : Request) :
    (s.acceptInto k r).controllerReady = s.controllerReady := rfl
@[simp] theorem State.acceptInto_sdo (s : State) (k : SlotId) (r : Request) : (s.acceptInto k r).sdo = s.sdo := rfl
@[simp] theorem State.acceptInto_mSideOut (s : State) (k : SlotId) (r : Request) :
    (s.acceptInto k r).mSideOut = s.mSideOut := rfl
@[simp] theorem State.acceptInto_iSideOut (s : State) (k : SlotId) (r : Request) :
    (s.acceptInto k r).iSideOut = s.iSideOut := rfl
@[simp] theorem State.acceptInto_owedTicks (s : State) (k : SlotId) (r : Request) :
    (s.acceptInto k r).owedTicks = s.owedTicks := rfl
@[simp] theorem State.acceptInto_refclkTicks (s : State) (k : SlotId) (r : Request) :
    (s.acceptInto k r).refclkTicks = s.refclkTicks := rfl
@[simp] theorem State.acceptInto_pending (s : State) (k : SlotId) (r : Request) :
    (s.acceptInto k r).pending = s.pending := rfl

/-! ## State.pass -/

@[simp] theorem State.pass_map (s : State) (r : Response) : (s.pass r).map = s.map := rfl
@[simp] theorem State.pass_classes (s : State) (r : Response) : (s.pass r).classes = s.classes := rfl
@[simp] theorem State.pass_divisor (s : State) (r : Response) : (s.pass r).divisor = s.divisor := rfl
@[simp] theorem State.pass_count (s : State) (r : Response) : (s.pass r).count = s.count := rfl
@[simp] theorem State.pass_freeze (s : State) (r : Response) : (s.pass r).freeze = s.freeze := rfl
@[simp] theorem State.pass_slots (s : State) (r : Response) : (s.pass r).slots = s.slots := rfl
@[simp] theorem State.pass_arrival (s : State) (r : Response) : (s.pass r).arrival = s.arrival := rfl
@[simp] theorem State.pass_inFlight (s : State) (r : Response) : (s.pass r).inFlight = s.inFlight := rfl
@[simp] theorem State.pass_fences (s : State) (r : Response) : (s.pass r).fences = s.fences := rfl
@[simp] theorem State.pass_drainLimit (s : State) (r : Response) : (s.pass r).drainLimit = s.drainLimit := rfl
@[simp] theorem State.pass_digests (s : State) (r : Response) : (s.pass r).digests = s.digests := rfl
@[simp] theorem State.pass_tallies (s : State) (r : Response) : (s.pass r).tallies = s.tallies := rfl
@[simp] theorem State.pass_records (s : State) (r : Response) : (s.pass r).records = s.records := rfl
@[simp] theorem State.pass_nextSerial (s : State) (r : Response) : (s.pass r).nextSerial = s.nextSerial := rfl
@[simp] theorem State.pass_pendingGap (s : State) (r : Response) : (s.pass r).pendingGap = s.pendingGap := rfl
@[simp] theorem State.pass_receiver (s : State) (r : Response) : (s.pass r).receiver = s.receiver := rfl
@[simp] theorem State.pass_holder (s : State) (r : Response) : (s.pass r).holder = s.holder := rfl
@[simp] theorem State.pass_sticky (s : State) (r : Response) : (s.pass r).sticky = s.sticky := rfl
@[simp] theorem State.pass_enableMask (s : State) (r : Response) : (s.pass r).enableMask = s.enableMask := rfl
@[simp] theorem State.pass_threshold (s : State) (r : Response) : (s.pass r).threshold = s.threshold := rfl
@[simp] theorem State.pass_resetAsserted (s : State) (r : Response) :
    (s.pass r).resetAsserted = s.resetAsserted := rfl
@[simp] theorem State.pass_controllerReady (s : State) (r : Response) :
    (s.pass r).controllerReady = s.controllerReady := rfl
@[simp] theorem State.pass_sdo (s : State) (r : Response) : (s.pass r).sdo = s.sdo := rfl
@[simp] theorem State.pass_mSideOut (s : State) (r : Response) : (s.pass r).mSideOut = s.mSideOut := rfl
@[simp] theorem State.pass_iSideOut (s : State) (r : Response) : (s.pass r).iSideOut = some r := rfl
@[simp] theorem State.pass_owedTicks (s : State) (r : Response) : (s.pass r).owedTicks = s.owedTicks := rfl
@[simp] theorem State.pass_refclkTicks (s : State) (r : Response) : (s.pass r).refclkTicks = s.refclkTicks := rfl
@[simp] theorem State.pass_pending (s : State) (r : Response) : (s.pass r).pending = s.pending := rfl

/-! ## State.dropEntry -/

@[simp] theorem State.dropEntry_map (s : State) (p : Entry → Bool) : (s.dropEntry p).map = s.map := rfl
@[simp] theorem State.dropEntry_classes (s : State) (p : Entry → Bool) : (s.dropEntry p).classes = s.classes := rfl
@[simp] theorem State.dropEntry_divisor (s : State) (p : Entry → Bool) : (s.dropEntry p).divisor = s.divisor := rfl
@[simp] theorem State.dropEntry_count (s : State) (p : Entry → Bool) : (s.dropEntry p).count = s.count := rfl
@[simp] theorem State.dropEntry_freeze (s : State) (p : Entry → Bool) : (s.dropEntry p).freeze = s.freeze := rfl
@[simp] theorem State.dropEntry_slots (s : State) (p : Entry → Bool) : (s.dropEntry p).slots = s.slots := rfl
@[simp] theorem State.dropEntry_arrival (s : State) (p : Entry → Bool) : (s.dropEntry p).arrival = s.arrival := rfl
@[simp] theorem State.dropEntry_inFlight (s : State) (p : Entry → Bool) :
    (s.dropEntry p).inFlight = s.inFlight.eraseP p := rfl
@[simp] theorem State.dropEntry_fences (s : State) (p : Entry → Bool) : (s.dropEntry p).fences = s.fences := rfl
@[simp] theorem State.dropEntry_drainLimit (s : State) (p : Entry → Bool) :
    (s.dropEntry p).drainLimit = s.drainLimit := rfl
@[simp] theorem State.dropEntry_digests (s : State) (p : Entry → Bool) : (s.dropEntry p).digests = s.digests := rfl
@[simp] theorem State.dropEntry_tallies (s : State) (p : Entry → Bool) : (s.dropEntry p).tallies = s.tallies := rfl
@[simp] theorem State.dropEntry_records (s : State) (p : Entry → Bool) : (s.dropEntry p).records = s.records := rfl
@[simp] theorem State.dropEntry_nextSerial (s : State) (p : Entry → Bool) :
    (s.dropEntry p).nextSerial = s.nextSerial := rfl
@[simp] theorem State.dropEntry_pendingGap (s : State) (p : Entry → Bool) :
    (s.dropEntry p).pendingGap = s.pendingGap := rfl
@[simp] theorem State.dropEntry_receiver (s : State) (p : Entry → Bool) :
    (s.dropEntry p).receiver = s.receiver := rfl
@[simp] theorem State.dropEntry_holder (s : State) (p : Entry → Bool) : (s.dropEntry p).holder = s.holder := rfl
@[simp] theorem State.dropEntry_sticky (s : State) (p : Entry → Bool) : (s.dropEntry p).sticky = s.sticky := rfl
@[simp] theorem State.dropEntry_enableMask (s : State) (p : Entry → Bool) :
    (s.dropEntry p).enableMask = s.enableMask := rfl
@[simp] theorem State.dropEntry_threshold (s : State) (p : Entry → Bool) :
    (s.dropEntry p).threshold = s.threshold := rfl
@[simp] theorem State.dropEntry_resetAsserted (s : State) (p : Entry → Bool) :
    (s.dropEntry p).resetAsserted = s.resetAsserted := rfl
@[simp] theorem State.dropEntry_controllerReady (s : State) (p : Entry → Bool) :
    (s.dropEntry p).controllerReady = s.controllerReady := rfl
@[simp] theorem State.dropEntry_sdo (s : State) (p : Entry → Bool) : (s.dropEntry p).sdo = s.sdo := rfl
@[simp] theorem State.dropEntry_mSideOut (s : State) (p : Entry → Bool) :
    (s.dropEntry p).mSideOut = s.mSideOut := rfl
@[simp] theorem State.dropEntry_iSideOut (s : State) (p : Entry → Bool) :
    (s.dropEntry p).iSideOut = s.iSideOut := rfl
@[simp] theorem State.dropEntry_owedTicks (s : State) (p : Entry → Bool) :
    (s.dropEntry p).owedTicks = s.owedTicks := rfl
@[simp] theorem State.dropEntry_refclkTicks (s : State) (p : Entry → Bool) :
    (s.dropEntry p).refclkTicks = s.refclkTicks := rfl
@[simp] theorem State.dropEntry_pending (s : State) (p : Entry → Bool) : (s.dropEntry p).pending = s.pending := rfl

/-! ## State.countBeat -/

@[simp] theorem State.countBeat_map (s : State) (p : Entry → Bool) : (s.countBeat p).map = s.map := rfl
@[simp] theorem State.countBeat_classes (s : State) (p : Entry → Bool) : (s.countBeat p).classes = s.classes := rfl
@[simp] theorem State.countBeat_divisor (s : State) (p : Entry → Bool) : (s.countBeat p).divisor = s.divisor := rfl
@[simp] theorem State.countBeat_count (s : State) (p : Entry → Bool) : (s.countBeat p).count = s.count := rfl
@[simp] theorem State.countBeat_freeze (s : State) (p : Entry → Bool) : (s.countBeat p).freeze = s.freeze := rfl
@[simp] theorem State.countBeat_slots (s : State) (p : Entry → Bool) : (s.countBeat p).slots = s.slots := rfl
@[simp] theorem State.countBeat_arrival (s : State) (p : Entry → Bool) : (s.countBeat p).arrival = s.arrival := rfl
@[simp] theorem State.countBeat_inFlight (s : State) (p : Entry → Bool) :
    (s.countBeat p).inFlight = s.inFlight.replaceF fun e => if p e then some e.oneMore else none := rfl
@[simp] theorem State.countBeat_fences (s : State) (p : Entry → Bool) : (s.countBeat p).fences = s.fences := rfl
@[simp] theorem State.countBeat_drainLimit (s : State) (p : Entry → Bool) :
    (s.countBeat p).drainLimit = s.drainLimit := rfl
@[simp] theorem State.countBeat_digests (s : State) (p : Entry → Bool) : (s.countBeat p).digests = s.digests := rfl
@[simp] theorem State.countBeat_tallies (s : State) (p : Entry → Bool) : (s.countBeat p).tallies = s.tallies := rfl
@[simp] theorem State.countBeat_records (s : State) (p : Entry → Bool) : (s.countBeat p).records = s.records := rfl
@[simp] theorem State.countBeat_nextSerial (s : State) (p : Entry → Bool) :
    (s.countBeat p).nextSerial = s.nextSerial := rfl
@[simp] theorem State.countBeat_pendingGap (s : State) (p : Entry → Bool) :
    (s.countBeat p).pendingGap = s.pendingGap := rfl
@[simp] theorem State.countBeat_receiver (s : State) (p : Entry → Bool) :
    (s.countBeat p).receiver = s.receiver := rfl
@[simp] theorem State.countBeat_holder (s : State) (p : Entry → Bool) : (s.countBeat p).holder = s.holder := rfl
@[simp] theorem State.countBeat_sticky (s : State) (p : Entry → Bool) : (s.countBeat p).sticky = s.sticky := rfl
@[simp] theorem State.countBeat_enableMask (s : State) (p : Entry → Bool) :
    (s.countBeat p).enableMask = s.enableMask := rfl
@[simp] theorem State.countBeat_threshold (s : State) (p : Entry → Bool) :
    (s.countBeat p).threshold = s.threshold := rfl
@[simp] theorem State.countBeat_resetAsserted (s : State) (p : Entry → Bool) :
    (s.countBeat p).resetAsserted = s.resetAsserted := rfl
@[simp] theorem State.countBeat_controllerReady (s : State) (p : Entry → Bool) :
    (s.countBeat p).controllerReady = s.controllerReady := rfl
@[simp] theorem State.countBeat_sdo (s : State) (p : Entry → Bool) : (s.countBeat p).sdo = s.sdo := rfl
@[simp] theorem State.countBeat_mSideOut (s : State) (p : Entry → Bool) :
    (s.countBeat p).mSideOut = s.mSideOut := rfl
@[simp] theorem State.countBeat_iSideOut (s : State) (p : Entry → Bool) :
    (s.countBeat p).iSideOut = s.iSideOut := rfl
@[simp] theorem State.countBeat_owedTicks (s : State) (p : Entry → Bool) :
    (s.countBeat p).owedTicks = s.owedTicks := rfl
@[simp] theorem State.countBeat_refclkTicks (s : State) (p : Entry → Bool) :
    (s.countBeat p).refclkTicks = s.refclkTicks := rfl
@[simp] theorem State.countBeat_pending (s : State) (p : Entry → Bool) : (s.countBeat p).pending = s.pending := rfl

/-! ## State.unfenceSet -/

@[simp] theorem State.unfenceSet_map (s : State) (named : Bits) : (s.unfenceSet named).map = s.map := rfl
@[simp] theorem State.unfenceSet_classes (s : State) (named : Bits) :
    (s.unfenceSet named).classes = s.classes := rfl
@[simp] theorem State.unfenceSet_divisor (s : State) (named : Bits) :
    (s.unfenceSet named).divisor = s.divisor := rfl
@[simp] theorem State.unfenceSet_count (s : State) (named : Bits) : (s.unfenceSet named).count = s.count := rfl
@[simp] theorem State.unfenceSet_freeze (s : State) (named : Bits) : (s.unfenceSet named).freeze = s.freeze := rfl
@[simp] theorem State.unfenceSet_slots (s : State) (named : Bits) : (s.unfenceSet named).slots = s.slots := rfl
@[simp] theorem State.unfenceSet_arrival (s : State) (named : Bits) :
    (s.unfenceSet named).arrival = s.arrival := rfl
@[simp] theorem State.unfenceSet_inFlight (s : State) (named : Bits) :
    (s.unfenceSet named).inFlight = s.inFlight := rfl
@[simp] theorem State.unfenceSet_fences (s : State) (named : Bits) :
    (s.unfenceSet named).fences = tabulate fun c => if namedIn named c then .reset else s.fences[c] := rfl
@[simp] theorem State.unfenceSet_drainLimit (s : State) (named : Bits) :
    (s.unfenceSet named).drainLimit = s.drainLimit := rfl
@[simp] theorem State.unfenceSet_digests (s : State) (named : Bits) :
    (s.unfenceSet named).digests = s.digests := rfl
@[simp] theorem State.unfenceSet_tallies (s : State) (named : Bits) :
    (s.unfenceSet named).tallies = s.tallies := rfl
@[simp] theorem State.unfenceSet_records (s : State) (named : Bits) :
    (s.unfenceSet named).records = s.records := rfl
@[simp] theorem State.unfenceSet_nextSerial (s : State) (named : Bits) :
    (s.unfenceSet named).nextSerial = s.nextSerial := rfl
@[simp] theorem State.unfenceSet_pendingGap (s : State) (named : Bits) :
    (s.unfenceSet named).pendingGap = s.pendingGap := rfl
@[simp] theorem State.unfenceSet_receiver (s : State) (named : Bits) :
    (s.unfenceSet named).receiver = s.receiver := rfl
@[simp] theorem State.unfenceSet_holder (s : State) (named : Bits) : (s.unfenceSet named).holder = s.holder := rfl
@[simp] theorem State.unfenceSet_sticky (s : State) (named : Bits) : (s.unfenceSet named).sticky = s.sticky := rfl
@[simp] theorem State.unfenceSet_enableMask (s : State) (named : Bits) :
    (s.unfenceSet named).enableMask = s.enableMask := rfl
@[simp] theorem State.unfenceSet_threshold (s : State) (named : Bits) :
    (s.unfenceSet named).threshold = s.threshold := rfl
@[simp] theorem State.unfenceSet_resetAsserted (s : State) (named : Bits) :
    (s.unfenceSet named).resetAsserted = s.resetAsserted := rfl
@[simp] theorem State.unfenceSet_controllerReady (s : State) (named : Bits) :
    (s.unfenceSet named).controllerReady = s.controllerReady := rfl
@[simp] theorem State.unfenceSet_sdo (s : State) (named : Bits) : (s.unfenceSet named).sdo = s.sdo := rfl
@[simp] theorem State.unfenceSet_mSideOut (s : State) (named : Bits) :
    (s.unfenceSet named).mSideOut = s.mSideOut := rfl
@[simp] theorem State.unfenceSet_iSideOut (s : State) (named : Bits) :
    (s.unfenceSet named).iSideOut = s.iSideOut := rfl
@[simp] theorem State.unfenceSet_owedTicks (s : State) (named : Bits) :
    (s.unfenceSet named).owedTicks = s.owedTicks := rfl
@[simp] theorem State.unfenceSet_refclkTicks (s : State) (named : Bits) :
    (s.unfenceSet named).refclkTicks = s.refclkTicks := rfl
@[simp] theorem State.unfenceSet_pending (s : State) (named : Bits) :
    (s.unfenceSet named).pending = s.pending := rfl

/-! ## State.judged: a judgement reaches the slots alone -/

@[simp] theorem State.judged_map (s : State) : s.judged.map = s.map := by
  unfold State.judged; split <;> rfl
@[simp] theorem State.judged_classes (s : State) : s.judged.classes = s.classes := by
  unfold State.judged; split <;> rfl
@[simp] theorem State.judged_divisor (s : State) : s.judged.divisor = s.divisor := by
  unfold State.judged; split <;> rfl
@[simp] theorem State.judged_count (s : State) : s.judged.count = s.count := by
  unfold State.judged; split <;> rfl
@[simp] theorem State.judged_freeze (s : State) : s.judged.freeze = s.freeze := by
  unfold State.judged; split <;> rfl
@[simp] theorem State.judged_arrival (s : State) : s.judged.arrival = s.arrival := by
  unfold State.judged; split <;> rfl
@[simp] theorem State.judged_inFlight (s : State) : s.judged.inFlight = s.inFlight := by
  unfold State.judged; split <;> rfl
@[simp] theorem State.judged_fences (s : State) : s.judged.fences = s.fences := by
  unfold State.judged; split <;> rfl
@[simp] theorem State.judged_drainLimit (s : State) : s.judged.drainLimit = s.drainLimit := by
  unfold State.judged; split <;> rfl
@[simp] theorem State.judged_digests (s : State) : s.judged.digests = s.digests := by
  unfold State.judged; split <;> rfl
@[simp] theorem State.judged_tallies (s : State) : s.judged.tallies = s.tallies := by
  unfold State.judged; split <;> rfl
@[simp] theorem State.judged_records (s : State) : s.judged.records = s.records := by
  unfold State.judged; split <;> rfl
@[simp] theorem State.judged_nextSerial (s : State) : s.judged.nextSerial = s.nextSerial := by
  unfold State.judged; split <;> rfl
@[simp] theorem State.judged_pendingGap (s : State) : s.judged.pendingGap = s.pendingGap := by
  unfold State.judged; split <;> rfl
@[simp] theorem State.judged_receiver (s : State) : s.judged.receiver = s.receiver := by
  unfold State.judged; split <;> rfl
@[simp] theorem State.judged_holder (s : State) : s.judged.holder = s.holder := by
  unfold State.judged; split <;> rfl
@[simp] theorem State.judged_sticky (s : State) : s.judged.sticky = s.sticky := by
  unfold State.judged; split <;> rfl
@[simp] theorem State.judged_enableMask (s : State) : s.judged.enableMask = s.enableMask := by
  unfold State.judged; split <;> rfl
@[simp] theorem State.judged_threshold (s : State) : s.judged.threshold = s.threshold := by
  unfold State.judged; split <;> rfl
@[simp] theorem State.judged_resetAsserted (s : State) : s.judged.resetAsserted = s.resetAsserted := by
  unfold State.judged; split <;> rfl
@[simp] theorem State.judged_controllerReady (s : State) : s.judged.controllerReady = s.controllerReady := by
  unfold State.judged; split <;> rfl
@[simp] theorem State.judged_sdo (s : State) : s.judged.sdo = s.sdo := by
  unfold State.judged; split <;> rfl
@[simp] theorem State.judged_mSideOut (s : State) : s.judged.mSideOut = s.mSideOut := by
  unfold State.judged; split <;> rfl
@[simp] theorem State.judged_iSideOut (s : State) : s.judged.iSideOut = s.iSideOut := by
  unfold State.judged; split <;> rfl
@[simp] theorem State.judged_owedTicks (s : State) : s.judged.owedTicks = s.owedTicks := by
  unfold State.judged; split <;> rfl
@[simp] theorem State.judged_refclkTicks (s : State) : s.judged.refclkTicks = s.refclkTicks := by
  unfold State.judged; split <;> rfl
@[simp] theorem State.judged_pending (s : State) : s.judged.pending = s.pending := by
  unfold State.judged; split <;> rfl

end Sys2Proof.Machine
end

