-- ==== Sys2Proof/Laws/Table.lean ====
section
/-! SUPPORT. What `tabulate` and `satAdd` give. -/

namespace Sys2Proof.Machine

@[simp] theorem tabulate_get {α : Type} {n : Nat} (f : Fin n → α) (i : Fin n) : (tabulate f)[i] = f i := by
  simp [tabulate]

@[simp] theorem tabulate_getElem {α : Type} {n : Nat} (f : Fin n → α) (i : Nat) (h : i < n) :
    (tabulate f)[i] = f ⟨i, h⟩ := by
  simp [tabulate]

/-- A table is the one that tabulates its entries. -/
theorem tabulate_eq {α : Type} {n : Nat} (v : Vector α n) : tabulate (fun i => v[i]) = v := by
  ext i h
  simp

/-- The saturated count as a number. -/
theorem satAdd_toNat {w : Nat} (x : BitVec w) (n : Nat) :
    (satAdd x n).toNat = min (x.toNat + n) (2 ^ w - 1) := by
  have : min (x.toNat + n) (2 ^ w - 1) < 2 ^ w := by
    have := Nat.two_pow_pos w
    omega
  simp [satAdd, Nat.mod_eq_of_lt this]

/-- A saturating count never falls. -/
theorem le_satAdd {w : Nat} (x : BitVec w) (n : Nat) : x.toNat ≤ (satAdd x n).toNat := by
  have := x.isLt
  rw [satAdd_toNat]
  omega

end Sys2Proof.Machine
end

