-- ==== Sys2Proof/Laws/Judgement.lean ====
section
/-! SUPPORT. What a judgement can do (R74, R79): it sets credit-waited flags, and nothing else. -/

namespace Sys2Proof.Machine

/-- No judgement is made while the M-side cannot take a request. -/
theorem State.judged_of_not (s : State) (h : s.mSideCanTake = false) : s.judged = s := by
  simp [State.judged, h]

/-- A judgement is made while the M-side can take a request. -/
theorem State.judged_of (s : State) (h : s.mSideCanTake = true) : s.judged = s.judge := by
  simp [State.judged, h]

/-- A judgement touches the slots alone. -/
theorem State.judged_frame (s : State) : s.judged = { s with slots := s.judged.slots } := by
  unfold State.judged
  split <;> rfl

/-- What a judgement makes of one slot. -/
theorem State.judged_slot (s : State) (k : SlotId) :
    s.judged.slots[k] = (s.slots[k]).map fun h => if s.mSideCanTake then s.judgeSlot k h else h := by
  unfold State.judged
  split <;> simp

/-- A judged slot is the slot as it was, but for a credit-waited flag that may have been set. -/
theorem State.judgeSlot_eq (s : State) (k : SlotId) (h : HeldSlot) :
    s.judgeSlot k h = { h with creditWaited := h.creditWaited || s.holdReason k h == .credit } := by
  unfold State.judgeSlot
  split
  · simp [*]
  · have hne : (s.holdReason k h == .credit) = false := by simpa using ‹¬ _›
    rw [hne, Bool.or_false]

/-- A judged table of slots, slot by slot: FREE stays FREE, and a held request keeps everything but its
credit-waited flag, which is never cleared. -/
theorem State.judged_slot_cases (s : State) (k : SlotId) :
    (s.slots[k] = none ∧ s.judged.slots[k] = none)
      ∨ ∃ (h : HeldSlot) (w : Bool), s.slots[k] = some h ∧ (h.creditWaited = true → w = true)
          ∧ s.judged.slots[k] = some { h with creditWaited := w } := by
  rw [State.judged_slot]
  cases s.slots[k] with
  | none => exact .inl ⟨rfl, rfl⟩
  | some h =>
    refine .inr ⟨h, if s.mSideCanTake then h.creditWaited || s.holdReason k h == .credit else h.creditWaited,
      rfl, fun hw => by simp [hw], ?_⟩
    rw [Option.map_some, State.judgeSlot_eq]
    split <;> rfl

/-- A judgement neither fills nor frees a slot. -/
theorem State.judged_slot_isSome (s : State) (k : SlotId) :
    (s.judged.slots[k]).isSome = (s.slots[k]).isSome := by
  rw [State.judged_slot, Option.isSome_map]

/-! ## A judgement and an answer commute -/

@[simp] theorem State.load_judged (s : State) (st : Status) (d : Bits) :
    s.judged.load st d = (s.load st d).judged := by
  have h : (s.load st d).mSideCanTake = s.mSideCanTake := rfl
  unfold State.judged
  rw [h]
  split <;> rfl

@[simp] theorem State.shiftOut_judged (s : State) (n : Nat) : s.judged.shiftOut n = (s.shiftOut n).judged := by
  have h : (s.shiftOut n).mSideCanTake = s.mSideCanTake := rfl
  unfold State.judged
  rw [h]
  split <;> rfl

end Sys2Proof.Machine
end

