-- ==== Sys2Proof/Laws/Link.lean ====
section
/-! SUPPORT. What a service-link frame can do (R157, R159, R164–R167, R173): the cases of `onFrame`, `onPayload`,
`onClass` and `onEntry`, each said once. -/

namespace Sys2Proof.Machine

/-- A ready link takes a frame: the previous result is shifted out, then the outcome acts. -/
theorem State.onFrame_taken (s : State) (n : Nat) (f : State → State) (hr : s.resetAsserted = false)
    (hl : s.receiver = .ready) : s.onFrame n f = f (s.shiftOut n) := by
  simp [State.onFrame, State.linkTakes, hr, hl]

/-- A link in reset, or awaiting the end of a remnant, takes no frame. -/
theorem State.onFrame_untaken (s : State) (n : Nat) (f : State → State)
    (h : s.resetAsserted = true ∨ s.receiver = .awaitingNegation) : s.onFrame n f = s := by
  rcases h with h | h <;> simp [State.onFrame, State.linkTakes, h]

/-- What holds of a state, and of every state its outcome answers after the shift, holds after a frame. -/
theorem State.onFrame_induct {P : State → Prop} (s : State) (n : Nat) (f : State → State) (hs : P s)
    (hf : P (f (s.shiftOut n))) : P (s.onFrame n f) := by
  unfold State.onFrame
  split <;> assumption

/-- A ready link takes a frame of a command without a payload. -/
theorem State.onCommand_taken (s : State) (rest : Bits) (f : State → State) (hr : s.resetAsserted = false)
    (hl : s.receiver = .ready) : s.onCommand rest f = f (s.shiftOut (12 + rest.length)) :=
  s.onFrame_taken _ f hr hl

/-- An incomplete payload is refused with SHORT. -/
theorem State.onPayload_short (s : State) (need : Nat) (rest : Bits) (f : State → State)
    (hr : s.resetAsserted = false) (hl : s.receiver = .ready) (hn : rest.length < need) :
    s.onPayload need rest f = (s.shiftOut (12 + rest.length)).refuseShort := by
  rw [State.onPayload, s.onCommand_taken _ _ hr hl, if_pos hn]

/-- A complete payload is judged. -/
theorem State.onPayload_whole (s : State) (need : Nat) (rest : Bits) (f : State → State)
    (hr : s.resetAsserted = false) (hl : s.receiver = .ready) (hn : need ≤ rest.length) :
    s.onPayload need rest f = f (s.shiftOut (12 + rest.length)) := by
  rw [State.onPayload, s.onCommand_taken _ _ hr hl, if_neg (by omega)]

/-- An operand that names a class. -/
theorem classOperand_of (o : BitVec 5) (c : ClassId) (h : o.toNat = c.val) : classOperand o = some c := by
  simp [classOperand, h]

/-- An operand that names no class. -/
theorem classOperand_none (o : BitVec 5) (h : 8 ≤ o.toNat) : classOperand o = none := by
  simp [classOperand, Nat.not_lt.mpr h]

/-- An operand that names a map entry. -/
theorem entryOperand_of (o : BitVec 5) (i : MapId) (h : o.toNat = i.val) : entryOperand o = some i := by
  simp [entryOperand, h]

/-- An operand that names no map entry. -/
theorem entryOperand_none (o : BitVec 5) (h : 16 ≤ o.toNat) : entryOperand o = none := by
  simp [entryOperand, Nat.not_lt.mpr h]

/-- Every operand names a slot. -/
theorem slotOperand_of (o : BitVec 5) (k : SlotId) (h : o.toNat = k.val) : slotOperand o = k := Fin.ext h

/-- A command on a class that its operand names. -/
theorem State.onClass_of (s : State) (o : BitVec 5) (c : ClassId) (f : ClassId → State → State)
    (h : o.toNat = c.val) : s.onClass o f = f c s := by
  rw [State.onClass, classOperand_of o c h]

/-- A command whose operand names no class. -/
theorem State.onClass_range (s : State) (o : BitVec 5) (f : ClassId → State → State) (h : 8 ≤ o.toNat) :
    s.onClass o f = s.refuseRange := by
  rw [State.onClass, classOperand_none o h]

/-- A command on a map entry that its operand names. -/
theorem State.onEntry_of (s : State) (o : BitVec 5) (i : MapId) (f : MapId → State → State)
    (h : o.toNat = i.val) : s.onEntry o f = f i s := by
  rw [State.onEntry, entryOperand_of o i h]

/-- A command whose operand names no map entry. -/
theorem State.onEntry_range (s : State) (o : BitVec 5) (f : MapId → State → State) (h : 16 ≤ o.toNat) :
    s.onEntry o f = s.refuseRange := by
  rw [State.onEntry, entryOperand_none o h]

/-- An answer after the shift is `State.answered`. -/
theorem State.load_shiftOut (s : State) (n : Nat) (st : Status) (d : Bits) :
    (s.shiftOut n).load st d = s.answered n st d := rfl

end Sys2Proof.Machine
end

