-- ==== Sys2Proof/Laws/Ops.lean ====
section
/-! SUPPORT. What each shared operation can do, said once: the fields it writes, and what it makes of them. -/

namespace Sys2Proof.Machine

/-! ## Classes -/

/-- A class is regulated when it is RUNNING with a non-zero period (R2). -/
theorem ClassRecord.isRegulated_iff (r : ClassRecord) :
    r.isRegulated = true ↔ r.run = .running ∧ r.active.period ≠ 0 := by
  unfold ClassRecord.isRegulated ClassRecord.kind
  cases r.run
  · exact ⟨fun h => absurd h (Bool.false_ne_true), fun h => nomatch h.1⟩
  · by_cases h : r.active.period = 0
    · simp only [h, if_true]
      exact ⟨fun h => absurd h Bool.false_ne_true, fun h => absurd rfl h.2⟩
    · simp only [h, if_false]
      exact ⟨fun _ => ⟨trivial, h⟩, fun _ => rfl⟩

/-- The record of a class that was changed, and those of the others. -/
theorem State.updateClass_get (s : State) (c d : ClassId) (f : ClassRecord → ClassRecord) :
    (s.updateClass c f).classes[d] = if c = d then f s.classes[c] else s.classes[d] := by
  simp only [State.updateClass_classes, Fin.getElem_fin, Vector.getElem_set, Fin.ext_iff]

/-- The tally of a class that was changed, and those of the others. -/
theorem State.updateTally_get (s : State) (c d : ClassId) (f : Tally → Tally) :
    (s.updateTally c f).tallies[d] = if c = d then f s.tallies[c] else s.tallies[d] := by
  simp only [State.updateTally_tallies, Fin.getElem_fin, Vector.getElem_set, Fin.ext_iff]

/-! ## Records and periods -/

/-- A hand-over touches the Report Queue and the sticky events alone. -/
theorem State.handOver_frame (s : State) (p : PeriodFacts) :
    s.handOver p
      = { s with
          records := (s.handOver p).records
          nextSerial := (s.handOver p).nextSerial
          pendingGap := (s.handOver p).pendingGap
          sticky := (s.handOver p).sticky } := by
  unfold State.handOver
  split <;> rfl

/-- The records after a hand-over: those before it, with the new one if the queue had room. -/
theorem State.handOver_records (s : State) (p : PeriodFacts) :
    (s.handOver p).records
      = s.records ++
          if s.records.length < queueCapacity then
            [{ facts := p, serial := s.nextSerial, gap := if s.pendingGap = 0 then none else some s.pendingGap }]
          else [] := by
  unfold State.handOver
  split <;> simp

/-- A hand-over raises the next serial by one if it admits the record. -/
theorem State.handOver_nextSerial (s : State) (p : PeriodFacts) :
    (s.handOver p).nextSerial
      = if s.records.length < queueCapacity then s.nextSerial + 1 else s.nextSerial := by
  unfold State.handOver
  split <;> rfl

/-- A report is a hand-over, or nothing for a class that does not report. -/
theorem State.report_cases (s : State) (c : ClassId) (cause : Cause) :
    (s.classes[c].active.reporting = true ∧ s.report c cause = s.handOver (s.periodFacts c cause))
      ∨ s.classes[c].active.reporting = false ∧ s.report c cause = s := by
  unfold State.report
  cases s.classes[c].active.reporting <;> simp

/-- A report touches the Report Queue and the sticky events alone. -/
theorem State.report_frame (s : State) (c : ClassId) (cause : Cause) :
    s.report c cause
      = { s with
          records := (s.report c cause).records
          nextSerial := (s.report c cause).nextSerial
          pendingGap := (s.report c cause).pendingGap
          sticky := (s.report c cause).sticky } := by
  rcases s.report_cases c cause with ⟨-, h⟩ | ⟨-, h⟩ <;> rw [h]
  exact s.handOver_frame _

/-- A period's renewal: the report, the class's record, its tally and its digest, and nothing else. -/
theorem State.renewPeriod_eq (s : State) (c : ClassId) (cause : Cause) :
    s.renewPeriod c cause
      = { s.report c cause with
          classes := s.classes.set c s.classes[c].renew
          tallies := s.tallies.set c .zero
          digests := s.digests.set c s.classes[c].staged.seed } := by
  unfold State.renewPeriod
  rw [s.report_frame c cause]
  simp [State.updateClass, State.startPeriod, ClassRecord.renew]

/-! ## Issue -/

/-- A charge touches the class records alone. -/
theorem State.charge_frame (s : State) (h : HeldSlot) (m : Means) :
    s.charge h m = { s with classes := (s.charge h m).classes } := by
  cases m <;> rfl

/-- A charge lowers the credit of the class it names by the request's length: the request's own class, or the
lender. -/
theorem State.charge_get (s : State) (h : HeldSlot) (m : Means) (d : ClassId) :
    (s.charge h m).classes[d]
      = { s.classes[d] with
          credit :=
            if (m = .own ∧ d = h.cls) ∨ m = .lent d then s.classes[d].credit - h.request.length
            else s.classes[d].credit } := by
  cases m with
  | free => simp [State.charge]
  | forced => simp [State.charge]
  | own =>
    simp only [State.charge, State.chargeClass, State.updateClass_get]
    by_cases hd : h.cls = d
    · subst hd; simp
    · simp [hd, Ne.symm hd]
  | lent l =>
    simp only [State.charge, State.chargeClass, State.updateClass_get]
    by_cases hd : l = d
    · subst hd; simp
    · simp [hd]

/-- The count of an issue touches the tallies alone. -/
theorem State.countIssue_frame (s : State) (h : HeldSlot) (m : Means) :
    s.countIssue h m = { s with tallies := (s.countIssue h m).tallies } := by
  unfold State.countIssue State.countLent
  split
  · cases m <;> rfl
  · rfl

/-- The fold of an issue touches the digests alone. -/
theorem State.foldIssue_frame (s : State) (h : HeldSlot) :
    s.foldIssue h = { s with digests := (s.foldIssue h).digests } := by
  unfold State.foldIssue
  split <;> rfl

/-- An issue: the request leaves, and class records, tallies and digests may change; nothing else does. -/
theorem State.issueSlot_frame (s : State) (k : SlotId) (h : HeldSlot) (m : Means) :
    s.issueSlot k h m
      = { s.sendOut k h with
          classes := (s.charge h m).classes
          tallies := (s.issueSlot k h m).tallies
          digests := (s.issueSlot k h m).digests } := by
  have hc : ((s.sendOut k h).charge h m).classes = (s.charge h m).classes := by cases m <;> rfl
  unfold State.issueSlot
  rw [State.foldIssue_frame, State.countIssue_frame, State.charge_frame, hc]

/-! ## Responses -/

/-- The count of a fault touches the tallies alone. -/
theorem State.countFault_frame (s : State) (c : ClassId) (st : ReplyStatus) :
    s.countFault c st = { s with tallies := (s.countFault c st).tallies } := by
  unfold State.countFault
  split <;> rfl

/-- A drain report moves a drained class's fence to FENCED and raises FENCE_DONE, or does nothing. -/
theorem State.drainReport_cases (s : State) (c : ClassId) :
    ((s.hasEntry c = false ∧ (s.fences[c].state = .draining ∨ s.fences[c].state = .stuck))
        ∧ s.drainReport c
          = { s.raise .fenceDone with fences := s.fences.set c { s.fences[c] with state := .fenced } })
      ∨ (¬ (s.hasEntry c = false ∧ (s.fences[c].state = .draining ∨ s.fences[c].state = .stuck))
        ∧ s.drainReport c = s) := by
  unfold State.drainReport FenceRecord.drains FenceRecord.drain
  cases s.hasEntry c <;> cases s.fences[c].state <;> simp

/-! ## Ticks -/

/-- A class record's tick: nothing for one that is not regulated, the period's renewal, or one more on the counter
with any half grant. -/
theorem State.tickRecord_cases (s : State) (c : ClassId) :
    (s.classes[c].isRegulated = false ∧ s.tickRecord c = s)
      ∨ (s.classes[c].isRegulated = true ∧ s.classes[c].counter + 1 = s.classes[c].active.period
        ∧ s.tickRecord c = s.renewPeriod c .elapsed)
      ∨ s.classes[c].isRegulated = true ∧ s.classes[c].counter + 1 ≠ s.classes[c].active.period
        ∧ s.tickRecord c
          = s.updateClass c fun r =>
              { r with
                counter := r.counter + 1
                credit :=
                  if r.active.halfGrantAt (r.counter + 1) then r.credit + r.active.halfGrant else r.credit } := by
  unfold State.tickRecord
  cases hr : s.classes[c].isRegulated
  · exact .inl ⟨rfl, by simp only [hr]; rfl⟩
  · by_cases h : s.classes[c].counter + 1 = s.classes[c].active.period
    · exact .inr (.inl ⟨rfl, h, by simp only [hr, if_true, if_pos h]⟩)
    · exact .inr (.inr ⟨rfl, h, by simp only [hr, if_true, if_neg h]; rfl⟩)

/-- What a tick makes of a held slot: nothing unless its class is UNFENCED; else one more on the wait counter, and
the forced flag set where its hold limit expires. The request, its class and its credit-waited flag stay. -/
theorem State.tickHeld_cases (s : State) (h : HeldSlot) :
    (s.fences[h.cls].state ≠ .unfenced ∧ s.tickHeld h = h)
      ∨ s.fences[h.cls].state = .unfenced
        ∧ s.tickHeld h
          = { h with wait := satAdd h.wait 1, forced := h.forced || s.classes[h.cls].expires h.waited } := by
  unfold State.tickHeld State.fenceHolds
  by_cases hf : s.fences[h.cls].state = .unfenced
  · exact .inr ⟨hf, by simp only [hf, beq_self_eq_true, if_true]; rfl⟩
  · exact .inl ⟨hf, if_neg (by simpa using hf)⟩

/-- The pool's tick: each held slot by its own rule, FORCED_RELEASE at an expiry, and nothing else. -/
theorem State.tickPool_eq (s : State) :
    s.tickPool
      = { s with
          slots := tabulate fun k => (s.slots[k]).map s.tickHeld
          sticky :=
            if (List.finRange 32).any s.slotExpires then s.sticky.raise .forcedRelease else s.sticky } := by
  unfold State.tickPool State.raise
  dsimp only
  split <;> rfl

/-- What a tick makes of a fence: nothing unless it is DRAINING; else one more on the timer, and STUCK at the drain
limit. -/
theorem FenceRecord.tick_cases (limit : BitVec 16) (f : FenceRecord) :
    (f.state ≠ .draining ∧ f.tick limit = f)
      ∨ f.state = .draining
        ∧ f.tick limit
          = { state := if limit ≠ 0 ∧ limit.toNat ≤ (satAdd f.timer 1).toNat then .stuck else .draining
              timer := satAdd f.timer 1 } := by
  unfold FenceRecord.tick FenceRecord.sticks
  by_cases h : f.state = .draining
  · exact .inr ⟨h, by simp [h]⟩
  · exact .inl ⟨h, by simp only [h, if_false]⟩

/-- The Fence Monitor's tick: each fence by its own rule, FENCE_STUCK at a move to STUCK, and nothing else. -/
theorem State.tickFences_eq (s : State) :
    s.tickFences
      = { s with
          fences := tabulate fun c => (s.fences[c]).tick s.drainLimit
          sticky :=
            if (List.finRange 8).any fun c => s.fences[c].sticks s.drainLimit then s.sticky.raise .fenceStuck
            else s.sticky } := by
  unfold State.tickFences State.raise
  dsimp only
  split <;> rfl

/-- The sequence of a tick's takers names each of them, and each once. -/
theorem mem_tickSequence (order : List TickTaker) (t : TickTaker) : t ∈ tickSequence order := by
  have hall : t ∈ tickTakers := by cases t <;> simp [tickTakers]
  by_cases h : t ∈ order <;> simp [tickSequence, h, hall]

theorem nodup_tickSequence (order : List TickTaker) : (tickSequence order).Nodup := by
  refine List.Nodup.append order.nodup_dedup (List.Nodup.filter _ (by decide)) fun t ht hf => ?_
  simp only [List.mem_filter, decide_eq_true_eq] at hf
  exact hf.2 (List.mem_dedup.mp ht)

/-- What one taker keeps, a list of takers keeps. -/
theorem State.foldl_takeTick_induct {P : State → Prop} (h : ∀ (s : State) (t : TickTaker), P s → P (s.takeTick t))
    (l : List TickTaker) (s : State) (hs : P s) : P (l.foldl State.takeTick s) := by
  induction l generalizing s with
  | nil => exact hs
  | cons t l ih => exact ih _ (h s t hs)

end Sys2Proof.Machine
end

