-- ==== Sys2Proof/Laws/Steps.lean ====
section
/-! SUPPORT. What ticks, issues, responses and steps can do, said once over the shared operations. -/

namespace Sys2Proof.Machine

/-- What judgements and the takers of a tick keep, and the bookkeeping of owed ticks leaves alone, a settlement
keeps. -/
theorem State.settleTicks_induct {P : State → Prop} (hj : ∀ s : State, P s → P s.judged)
    (ht : ∀ (s : State) (t : TickTaker), P s → P (s.takeTick t))
    (ho : ∀ (s : State) (l : List TickTaker), P s → P { s with owedTicks := l }) (s : State) (hs : P s) :
    P s.settleTicks := by
  unfold State.settleTicks
  split
  · exact hs
  · exact hj _ (ho _ _ (State.foldl_takeTick_induct ht _ _ hs))

/-- A settlement leaves no tick owed. -/
theorem State.settleTicks_owed (s : State) : s.settleTicks.owedTicks = [] := by
  unfold State.settleTicks
  split
  · assumption
  · rw [State.judged_frame]

/-- With no tick owed, a settlement does nothing. -/
theorem State.settleTicks_of_none (s : State) (h : s.owedTicks = []) : s.settleTicks = s := by
  simp [State.settleTicks, h]

/-- What judgements and the takers of a tick keep, and the tick count and the bookkeeping of owed ticks leave alone,
a tick keeps, whatever its order and whoever takes it later. -/
theorem State.makeTick_induct {P : State → Prop} (hj : ∀ s : State, P s → P s.judged)
    (ht : ∀ (s : State) (t : TickTaker), P s → P (s.takeTick t))
    (ho : ∀ (s : State) (l : List TickTaker), P s → P { s with owedTicks := l })
    (hc : ∀ s : State, P s → P { s with count := 0 }) (order later : List TickTaker) (s : State) (hs : P s) :
    P (s.makeTick order later) :=
  hj _ (ho _ _ (State.foldl_takeTick_induct ht _ _ (hc _ (State.settleTicks_induct hj ht ho s hs))))

/-- What a REFCLK period does: nothing while no tick can come; below the divisor it settles what is owed and counts;
at the divisor it makes a tick that all take at once. -/
theorem State.refclk_cases (s : State) :
    (s.ticksCome = false ∧ s.refclk = s)
      ∨ (s.ticksCome = true ∧ s.count + 1 < s.divisor.toNat
        ∧ s.refclk = { s.settleTicks with count := s.count + 1 })
      ∨ s.ticksCome = true ∧ s.divisor.toNat ≤ s.count + 1
        ∧ s.refclk
          = { s.makeTick (Config.tickOrder s.refclkTicks) [] with refclkTicks := s.refclkTicks + 1 } := by
  unfold State.refclk
  cases hc : s.ticksCome
  · exact .inl ⟨rfl, rfl⟩
  · by_cases h : s.count + 1 < s.divisor.toNat
    · exact .inr (.inl ⟨rfl, h, by simp only [h, if_true]⟩)
    · exact .inr (.inr ⟨rfl, by omega, by simp only [h, if_true, if_false]⟩)

/-- What a judgement, the taker and the bookkeeping of owed ticks keep, an owed tick keeps. -/
theorem State.takeOwed_induct {P : State → Prop} (hj : ∀ s : State, P s → P s.judged)
    (ht : ∀ (s : State) (t : TickTaker), P s → P (s.takeTick t))
    (ho : ∀ (s : State) (l : List TickTaker), P s → P { s with owedTicks := l }) (t : TickTaker) (s : State)
    (hs : P s) : P (s.takeOwed t) :=
  hj _ (ho _ _ (ht _ _ hs))

/-- A slot the arbiter chooses is a HELD one that is eligible. -/
theorem State.choice_eligible (s : State) (k : SlotId) (h : s.choice = some k) :
    k ∈ s.arrival ∧ s.eligible k = true := by
  have hm : k ∈ s.eligibleSlots := by
    unfold State.choice at h
    split at h
    · rename_i j hj
      cases h
      exact List.mem_of_find?_eq_some hj
    · exact List.mem_of_find?_eq_some h
  simpa [State.eligibleSlots] using hm

/-- An eligible slot holds a request that meets the order, fence, credit and space conditions. -/
theorem State.eligible_held (s : State) (k : SlotId) (h : s.eligible k = true) :
    ∃ (g : HeldSlot) (m : Means), s.slots[k] = some g ∧ s.orderHolds k g = true ∧ s.fenceHolds g = true
      ∧ s.creditMeans g = some m ∧ s.spaceHolds = true := by
  unfold State.eligible State.holdReason at h
  split at h
  · rename_i g hg
    refine ⟨g, ?_⟩
    cases ho : s.orderHolds k g <;> simp only [ho] at h
    · exact absurd h Bool.false_ne_true
    cases hf : s.fenceHolds g <;> simp only [hf] at h
    · exact absurd h Bool.false_ne_true
    cases hc : s.creditMeans g <;> simp only [hc] at h
    · exact absurd h Bool.false_ne_true
    cases hs : s.spaceHolds <;> simp only [hs] at h
    · exact absurd h Bool.false_ne_true
    exact ⟨_, hg, rfl, rfl, rfl, rfl⟩
  · exact absurd h Bool.false_ne_true

/-- A judgement leaves a chosen request as it is: its credit condition holds. -/
theorem State.judge_slot_of_eligible (s : State) (k : SlotId) (g : HeldSlot) (hk : s.slots[k] = some g)
    (he : s.eligible k = true) : s.judge.slots[k] = some g := by
  have hr : s.holdReason k g = .ready := by simpa [State.eligible, hk] using he
  show (tabulate fun k => (s.slots[k]).map (s.judgeSlot k))[k] = some g
  rw [tabulate_get, hk]
  simp [State.judgeSlot, hr]

/-- The outcomes of ISSUE: nothing but the controller's readiness while the M-side cannot take a request, a judgement
and that readiness with no eligible request, or the issue of the chosen one. -/
theorem State.issue_cases (s : State) (b : Bool) :
    (s.mSideCanTake = false ∧ s.issue b = { s with controllerReady := s.controllerReady && b })
      ∨ (s.mSideCanTake = true ∧ s.choice = none ∧ s.issue b = { s.judge with controllerReady := b })
      ∨ s.mSideCanTake = true ∧ ∃ (k : SlotId) (h : HeldSlot) (m : Means), s.choice = some k
          ∧ s.slots[k] = some h ∧ s.eligible k = true ∧ s.creditMeans h = some m
          ∧ s.issue b = { s.judge.issueSlot k h m with controllerReady := b }.judged := by
  unfold State.issue
  cases hm : s.mSideCanTake
  · exact .inl ⟨rfl, rfl⟩
  · cases hc : s.choice with
    | none => exact .inr (.inl ⟨rfl, rfl, rfl⟩)
    | some k =>
      obtain ⟨-, he⟩ := s.choice_eligible k hc
      obtain ⟨h, m, hk, -, -, hcm, -⟩ := s.eligible_held k he
      refine .inr (.inr ⟨rfl, k, h, m, rfl, hk, he, hcm, ?_⟩)
      have hj : s.judge.slots[k] = some h := s.judge_slot_of_eligible k h hk he
      have hcj : s.judge.creditMeans h = some m := hcm
      simp only [if_true, State.issueChosen, hj, hcj]

/-- The first entry a test picks is all that a removal takes out of the In-Flight Table. -/
theorem State.dropEntry_sublist (s : State) (p : Entry → Bool) :
    (s.dropEntry p).inFlight.Sublist s.inFlight :=
  List.eraseP_sublist

end Sys2Proof.Machine
end

