-- ==== Sys2Proof/Laws/Tick.lean ====
section
/-! SUPPORT. What a tick does, said once: blocks that take a tick one after another leave what `State.afterTick`
writes out (`State.foldl_takeTick_eq`), whatever their order. -/

namespace Sys2Proof.Machine

/-- A class is regulated when it is RUNNING with a non-zero period (R2), as a test. -/
theorem ClassRecord.isRegulated_eq (r : ClassRecord) :
    r.isRegulated = (r.run == .running && r.active.period != 0) := by
  rw [Bool.eq_iff_iff, ClassRecord.isRegulated_iff]
  simp

/-- A tick ends the period of a regulated class whose counter it brings to the period (R7). -/
theorem ClassRecord.endsAtTick_iff (r : ClassRecord) :
    r.endsAtTick = true ↔ r.isRegulated = true ∧ r.counter + 1 = r.active.period := by
  rw [ClassRecord.isRegulated_eq]
  simp [ClassRecord.endsAtTick]

/-- The credit of a period that opens, written out (R10). -/
theorem Descriptor.renewedCredit_eq (d : Descriptor) (old : Int) :
    d.renewedCredit old
      = if d.period = 0 then 0
        else if d.mode = .split ∧ d.period ≠ 1 then (((d.budget.toNat + 1) / 2 : Nat) : Int) + min old 0
        else (d.budget.toNat : Int) + min old 0 := by
  unfold Descriptor.renewedCredit Descriptor.openingGrant
  cases hm : d.mode
  · simp
  · by_cases h : d.period = 1
    · simp [h]
    · simp only [h, if_false, not_false_eq_true, and_self, if_true, ne_eq]
      rfl

/-- A tick that is a period end renews the record. -/
theorem ClassRecord.afterTick_of_ends (r : ClassRecord) (he : r.endsAtTick = true) : r.afterTick = r.renew := by
  obtain ⟨hr, hc⟩ := r.endsAtTick_iff.mp he
  obtain ⟨h1, h2⟩ := r.isRegulated_iff.mp hr
  unfold ClassRecord.afterTick ClassRecord.renew
  rw [if_neg (not_or.mpr ⟨by rw [h1]; decide, h2⟩), if_pos hc, Descriptor.renewedCredit_eq]

/-- Any other tick of a regulated class counts, with the half grant where it falls. -/
theorem ClassRecord.afterTick_of_counts (r : ClassRecord) (hr : r.isRegulated = true)
    (hc : r.counter + 1 ≠ r.active.period) :
    r.afterTick
      = { r with
          counter := r.counter + 1
          credit := if r.active.halfGrantAt (r.counter + 1) then r.credit + r.active.halfGrant else r.credit } := by
  obtain ⟨h1, h2⟩ := r.isRegulated_iff.mp hr
  unfold ClassRecord.afterTick
  rw [if_neg (not_or.mpr ⟨by rw [h1]; decide, h2⟩), if_neg hc]
  simp [Descriptor.halfGrantAt, Descriptor.halfGrant, and_assoc]

/-- A tick does not reach the record of a class that is not regulated (R8). -/
theorem ClassRecord.afterTick_of_not (r : ClassRecord) (hr : r.isRegulated = false) : r.afterTick = r := by
  unfold ClassRecord.afterTick
  rw [if_pos]
  rw [ClassRecord.isRegulated_eq] at hr
  cases h : r.run
  · exact .inl rfl
  · simpa [h] using hr

/-- The facts of a natural period end, written out. -/
theorem State.periodFacts_elapsed (s : State) (c : ClassId) : s.periodFacts c .elapsed = s.elapsedFacts c := by
  have h : ∀ a b : Descriptor, (a != b) = decide (a ≠ b) := fun a b => by by_cases h : a = b <;> simp [h]
  unfold State.periodFacts State.elapsedFacts debtOf
  simp only [h]
  rfl

/-- What one record hands over when it takes a tick. -/
theorem State.elapsedRecords_record (s : State) (c : ClassId) :
    s.elapsedRecords [.record c]
      = if s.classes[c].endsAtTick && s.classes[c].active.reporting then [s.elapsedFacts c] else [] := by
  simp only [State.elapsedRecords, List.filterMap_cons, List.filterMap_nil]
  split <;> simp_all

/-- A class record's tick: the hand-over, the record, its tally and its digest, and nothing else. -/
theorem State.tickRecord_eq (s : State) (c : ClassId) :
    s.tickRecord c
      = { (s.elapsedRecords [.record c]).foldl (fun q p => q.handOver p) s with
          classes := s.classes.set c s.classes[c].afterTick
          tallies := if s.classes[c].endsAtTick then s.tallies.set c .zero else s.tallies
          digests := if s.classes[c].endsAtTick then s.digests.set c s.classes[c].staged.seed else s.digests } := by
  rw [State.elapsedRecords_record]
  rcases s.tickRecord_cases c with ⟨hr, h⟩ | ⟨hr, hc, h⟩ | ⟨hr, hc, h⟩
  · have he : s.classes[c].endsAtTick = false := by
      rw [← Bool.not_eq_true, ClassRecord.endsAtTick_iff, hr]; simp
    have hs : s.classes.set c s.classes[c] = s.classes := Vector.set_getElem_self _
    rw [h, ClassRecord.afterTick_of_not _ hr, he, hs]
    rfl
  · have he : s.classes[c].endsAtTick = true := (ClassRecord.endsAtTick_iff _).mpr ⟨hr, hc⟩
    rw [h, State.renewPeriod_eq, ClassRecord.afterTick_of_ends _ he, he]
    unfold State.report
    rw [State.periodFacts_elapsed]
    cases s.classes[c].active.reporting <;> rfl
  · have he : s.classes[c].endsAtTick = false := by
      rw [← Bool.not_eq_true, ClassRecord.endsAtTick_iff]; exact fun h => hc h.2
    rw [h, ClassRecord.afterTick_of_counts _ hr hc, he]
    rfl

/-- An expiry, for a request whose wait counter the tick has raised. -/
theorem ClassRecord.expires_waited (r : ClassRecord) (f : FenceRecord) (h : HeldSlot) (hf : f.state = .unfenced) :
    r.expires h.waited = h.expiresAtTick f r := by
  have hw : (satAdd h.wait 1).toNat = min (h.wait.toNat + 1) 255 := satAdd_toNat _ _
  unfold ClassRecord.expires HeldSlot.expiresAtTick HeldSlot.waited
  rw [ClassRecord.isRegulated_eq, hf]
  dsimp only
  rw [hw]
  simp [Bool.and_assoc]

/-- What the pool's tick makes of a held request is what R82 and R83 write out. -/
theorem State.tickHeld_eq (s : State) (h : HeldSlot) :
    s.tickHeld h = h.afterTick s.fences[h.cls] s.classes[h.cls] := by
  unfold HeldSlot.afterTick
  rcases s.tickHeld_cases h with ⟨hf, he⟩ | ⟨hf, he⟩
  · rw [he, if_neg hf]
  · rw [he, if_pos hf, ← ClassRecord.expires_waited _ _ _ hf]
    rfl

/-- An expiry of a slot is that of the request it holds. -/
theorem State.slotExpires_eq (s : State) (k : SlotId) :
    s.slotExpires k = (s.slots[k]).any fun h => h.expiresAtTick s.fences[h.cls] s.classes[h.cls] := by
  unfold State.slotExpires
  congr 1
  funext h
  unfold State.fenceHolds
  by_cases hf : s.fences[h.cls].state = .unfenced
  · rw [hf, ClassRecord.expires_waited _ _ _ hf]; rfl
  · have : (s.fences[h.cls].state == FenceState.unfenced) = false := by simpa using hf
    rw [this, HeldSlot.expiresAtTick, this]
    rfl

/-- A move to STUCK, written out. -/
theorem FenceRecord.sticks_eq (l : BitVec 16) (f : FenceRecord) : f.sticks l = f.sticksAtTick l := by
  unfold FenceRecord.sticks FenceRecord.sticksAtTick
  rw [satAdd_toNat]
  rfl

/-- What the Fence Monitor's tick makes of a fence is what R118 writes out. -/
theorem FenceRecord.tick_eq (l : BitVec 16) (f : FenceRecord) : f.tick l = f.afterTick l := by
  unfold FenceRecord.tick FenceRecord.afterTick
  rw [FenceRecord.sticks_eq]
  rfl

/-- A series of hand-overs touches the Report Queue and the sticky events alone. -/
theorem State.handOvers_frame (l : List PeriodFacts) (s : State) :
    l.foldl (fun q p => q.handOver p) s
      = { s with
          records := (l.foldl (fun q p => q.handOver p) s).records
          nextSerial := (l.foldl (fun q p => q.handOver p) s).nextSerial
          pendingGap := (l.foldl (fun q p => q.handOver p) s).pendingGap
          sticky := (l.foldl (fun q p => q.handOver p) s).sticky } := by
  induction l generalizing s with
  | nil => rfl
  | cons p l ih =>
    rw [List.foldl_cons, ih (s.handOver p), s.handOver_frame p]

/-- Two states whose Report Queues agree, and whose sticky events agree but for the two that a tick's other blocks
raise. -/
def State.SameQueue (a q : State) (x y : Bool) : Prop :=
  a.records = q.records ∧ a.nextSerial = q.nextSerial ∧ a.pendingGap = q.pendingGap
    ∧ a.sticky = { q.sticky with forcedRelease := x, fenceStuck := y }

/-- A hand-over keeps the agreement. -/
theorem State.SameQueue.handOver {a q : State} {x y : Bool} (h : a.SameQueue q x y) (p : PeriodFacts) :
    (a.handOver p).SameQueue (q.handOver p) x y := by
  obtain ⟨h1, h2, h3, h4⟩ := h
  unfold State.handOver
  rw [h1]
  split
  · exact ⟨by simp [h2, h3], by simp [h2], rfl, h4⟩
  · exact ⟨h1, h2, by simp [h3], by simp [State.raise, StickyEvents.raise, h4]⟩

/-- A series of hand-overs keeps the agreement. -/
theorem State.SameQueue.handOvers {a q : State} {x y : Bool} (h : a.SameQueue q x y) (l : List PeriodFacts) :
    (l.foldl (fun q p => q.handOver p) a).SameQueue (l.foldl (fun q p => q.handOver p) q) x y := by
  induction l generalizing a q with
  | nil => exact h
  | cons p l ih => exact ih (h.handOver p)

theorem State.elapsedRecords_append (s : State) (l m : List TickTaker) :
    s.elapsedRecords (l ++ m) = s.elapsedRecords l ++ s.elapsedRecords m := List.filterMap_append

/-- A tick that nobody takes leaves the state as it is. -/
theorem State.afterTick_nil (s : State) : s.afterTick [] = s := by
  have any_false : ∀ n : Nat, ((List.finRange n).any fun _ => false) = false := fun n => by simp
  have hc : tabulate (s.recordAfter []) = s.classes :=
    (congrArg tabulate (funext fun c => if_neg List.not_mem_nil)).trans (tabulate_eq _)
  have he : s.elapsedRecords [] = [] := rfl
  have ht : (tabulate fun c => s.tallies[c]) = s.tallies := tabulate_eq _
  have hd : (tabulate fun c => s.digests[c]) = s.digests := tabulate_eq _
  unfold State.afterTick
  simp only [List.not_mem_nil, decide_false, Bool.false_and, if_false, Option.any_false, any_false,
    Bool.or_false, hc, ht, hd, he, Bool.false_eq_true, List.foldl_nil]

/-! The fields that a tick writes. -/

theorem State.afterTick_classes_get (s : State) (l : List TickTaker) (c : ClassId) :
    (s.afterTick l).classes[c] = s.recordAfter l c := tabulate_get _ _
theorem State.afterTick_classes (s : State) (l : List TickTaker) :
    (s.afterTick l).classes = tabulate (s.recordAfter l) := rfl

/-- A table with one entry replaced. -/
theorem tabulate_set {α : Type} {n : Nat} (f : Fin n → α) (i : Fin n) (a : α) :
    (tabulate f).set i a = tabulate fun j => if j = i then a else f j := by
  ext j hj
  simp only [Vector.getElem_set, tabulate_getElem, Fin.ext_iff, eq_comm]

/-- One more entry of a table of choices is made: entry `c` takes its first value where `e` says so. -/
theorem tabulate_step {α : Type} (x y : ClassId → α) (p q : ClassId → Bool) (c : ClassId) (e : Bool)
    (hq : ∀ d : ClassId, d ≠ c → q d = p d) (hqc : q c = e) (hpc : p c = false) :
    (if e then (tabulate fun d => if p d then x d else y d).set c (x c) else tabulate fun d => if p d then x d else y d)
      = tabulate fun d => if q d then x d else y d := by
  cases e
  · refine congrArg tabulate (funext fun d => ?_)
    by_cases hd : d = c
    · rw [hd, hqc, hpc]
    · rw [hq d hd]
  · refine (tabulate_set _ c _).trans (congrArg tabulate (funext fun d => ?_))
    by_cases hd : d = c
    · rw [hd, hqc, if_pos rfl, if_pos rfl]
    · rw [hq d hd, if_neg hd]

/-- What comes before the pool in a list that names it, whatever follows. -/
theorem takeWhile_append_of_mem (l m : List TickTaker) (h : TickTaker.pool ∈ l) :
    ((l ++ m).takeWhile fun t => t != .pool) = l.takeWhile fun t => t != .pool := by
  rw [List.takeWhile_append, if_neg]
  intro he
  have := List.takeWhile_eq_self_iff.mp ((List.takeWhile_sublist _).eq_of_length he)
  simpa using this _ h

/-- What comes before the pool in a list that does not name it is all of the list. -/
theorem takeWhile_of_not_mem (l : List TickTaker) (h : TickTaker.pool ∉ l) :
    (l.takeWhile fun t => t != .pool) = l :=
  List.takeWhile_eq_self_iff.mpr fun t ht => by simpa using fun he : t = .pool => h (he ▸ ht)

variable (s : State) (l : List TickTaker)

/-- One class record more takes the tick. -/
theorem State.afterTick_record (c : ClassId) (hc : TickTaker.record c ∉ l) :
    (s.afterTick l).takeTick (.record c) = s.afterTick (l ++ [.record c]) := by
  have hcls : (s.afterTick l).classes[c] = s.classes[c] := (tabulate_get _ _).trans (if_neg hc)
  have htal : (s.afterTick l).tallies[c] = s.tallies[c] := by
    simp [State.afterTick, hc]
  have hdig : (s.afterTick l).digests[c] = s.digests[c] := by
    simp [State.afterTick, hc]
  have hfacts : (s.afterTick l).elapsedRecords [.record c] = s.elapsedRecords [.record c] := by
    rw [State.elapsedRecords_record, State.elapsedRecords_record]
    unfold State.elapsedFacts
    rw [hcls, htal, hdig]
  show (s.afterTick l).tickRecord c = _
  rw [State.tickRecord_eq, hfacts, hcls, State.handOvers_frame]
  have hq : (s.afterTick l).SameQueue ((s.elapsedRecords l).foldl (fun q p => q.handOver p) s)
      (s.afterTick l).sticky.forcedRelease (s.afterTick l).sticky.fenceStuck := ⟨rfl, rfl, rfl, rfl⟩
  obtain ⟨h1, h2, h3, h4⟩ := hq.handOvers (s.elapsedRecords [.record c])
  rw [← List.foldl_append, ← State.elapsedRecords_append] at h1 h2 h3 h4
  rw [h1, h2, h3, h4]
  have hpool : TickTaker.pool ∈ l ++ [.record c] ↔ TickTaker.pool ∈ l := by simp
  have hmon : TickTaker.fenceMonitor ∈ l ++ [.record c] ↔ TickTaker.fenceMonitor ∈ l := by simp
  have hended : ∀ d : ClassId, d ≠ c →
      (decide (TickTaker.record d ∈ l ++ [.record c]) && s.classes[d].endsAtTick)
        = (decide (TickTaker.record d ∈ l) && s.classes[d].endsAtTick) := fun d hd => by simp [hd]
  have hcl : (s.afterTick l).classes.set c s.classes[c].afterTick = (s.afterTick (l ++ [.record c])).classes := by
    rw [State.afterTick_classes, tabulate_set]
    refine congrArg tabulate (funext fun d => ?_)
    by_cases hd : d = c
    · subst hd; simp [State.recordAfter]
    · simp [State.recordAfter, hd]
  have htl : (if s.classes[c].endsAtTick then (s.afterTick l).tallies.set c .zero else (s.afterTick l).tallies)
      = (s.afterTick (l ++ [.record c])).tallies :=
    tabulate_step _ _ _ _ c _ hended (by simp) (by simp [hc])
  have hdl : (if s.classes[c].endsAtTick then (s.afterTick l).digests.set c s.classes[c].staged.seed
      else (s.afterTick l).digests) = (s.afterTick (l ++ [.record c])).digests :=
    tabulate_step _ _ _ _ c _ hended (by simp) (by simp [hc])
  have hfound : TickTaker.pool ∈ l → s.recordFound (l ++ [.record c]) = s.recordFound l := fun h => by
    unfold State.recordFound
    rw [takeWhile_append_of_mem _ _ h]
  have hsl : (s.afterTick l).slots = (s.afterTick (l ++ [.record c])).slots := by
    show (if _ then _ else _) = (if _ then _ else _)
    by_cases h : TickTaker.pool ∈ l
    · rw [if_pos h, if_pos (hpool.mpr h), hfound h]
    · rw [if_neg h, if_neg (mt hpool.mp h)]
  have hfl : (s.afterTick l).fences = (s.afterTick (l ++ [.record c])).fences := by
    show (if _ then _ else _) = (if _ then _ else _)
    simp only [hmon]
  have hst : (s.afterTick l).sticky.fenceStuck = (s.afterTick (l ++ [.record c])).sticky.fenceStuck := by
    show (_ || _) = (_ || _)
    simp only [hmon]
  have hfo : (s.afterTick l).sticky.forcedRelease = (s.afterTick (l ++ [.record c])).sticky.forcedRelease := by
    show (_ || _) = (_ || _)
    by_cases h : TickTaker.pool ∈ l
    · simp only [hpool, hfound h]
    · simp only [hpool, h, decide_false, Bool.false_and]
  rw [hcl, htl, hdl, hsl, hfl, hst, hfo]
  rfl

/-- The pool takes the tick after others. -/
theorem State.afterTick_pool (hp : TickTaker.pool ∉ l) :
    (s.afterTick l).takeTick .pool = s.afterTick (l ++ [.pool]) := by
  have hmem (c : ClassId) : TickTaker.record c ∈ l ++ [.pool] ↔ TickTaker.record c ∈ l := by simp
  have hmon : TickTaker.fenceMonitor ∈ l ++ [.pool] ↔ TickTaker.fenceMonitor ∈ l := by simp
  have hin : TickTaker.pool ∈ l ++ [.pool] := by simp
  have hrec : s.recordAfter (l ++ [.pool]) = s.recordAfter l := by
    funext c
    simp only [State.recordAfter, hmem]
  have hfound : s.recordFound (l ++ [.pool]) = s.recordAfter l := by
    have : ((l ++ [TickTaker.pool]).takeWhile fun t => t != .pool) = l := by
      rw [List.takeWhile_append, if_pos (by rw [takeWhile_of_not_mem _ hp])]
      simp
    unfold State.recordFound
    rw [this]
  have hela : s.elapsedRecords (l ++ [.pool]) = s.elapsedRecords l := by
    rw [State.elapsedRecords_append]
    exact List.append_nil _
  have hslots : (s.afterTick l).slots = s.slots := if_neg hp
  have hfence (c : ClassId) :
      (s.afterTick l).fences[c].state = .unfenced ↔ s.fences[c].state = .unfenced := by
    by_cases h : TickTaker.fenceMonitor ∈ l
    · have : (s.afterTick l).fences[c] = s.fences[c].afterTick s.drainLimit := by
        show (if TickTaker.fenceMonitor ∈ l then _ else s.fences)[c] = _
        rw [if_pos h, tabulate_get]
      rw [this]
      unfold FenceRecord.afterTick
      split
      · rename_i hd
        rw [hd]
        cases FenceRecord.sticksAtTick s.drainLimit s.fences[c] <;> simp
      · rfl
    · have : (s.afterTick l).fences = s.fences := if_neg h
      rw [this]
  have hafter (h : HeldSlot) : (s.afterTick l).tickHeld h
      = h.afterTick s.fences[h.cls] (s.recordFound (l ++ [.pool]) h.cls) := by
    rw [State.tickHeld_eq, State.afterTick_classes_get, hfound]
    unfold HeldSlot.afterTick HeldSlot.expiresAtTick
    by_cases hf : s.fences[h.cls].state = .unfenced
    · rw [if_pos ((hfence _).mpr hf), if_pos hf, (hfence _).mpr hf, hf]
    · rw [if_neg (mt (hfence _).mp hf), if_neg hf]
  have hexp (h : HeldSlot) : h.expiresAtTick (s.afterTick l).fences[h.cls] (s.afterTick l).classes[h.cls]
      = h.expiresAtTick s.fences[h.cls] (s.recordFound (l ++ [.pool]) h.cls) := by
    rw [State.afterTick_classes_get, hfound]
    unfold HeldSlot.expiresAtTick
    have : ((s.afterTick l).fences[h.cls].state == FenceState.unfenced)
        = (s.fences[h.cls].state == FenceState.unfenced) := by
      rw [Bool.eq_iff_iff, beq_iff_eq, beq_iff_eq, hfence]
    rw [this]
  have hsl : (tabulate fun k => ((s.afterTick l).slots[k]).map (s.afterTick l).tickHeld)
      = (s.afterTick (l ++ [.pool])).slots := by
    rw [hslots]
    refine Eq.trans ?_ (if_pos hin).symm
    exact congrArg tabulate (funext fun k => congrArg (fun f => (s.slots[k]).map f) (funext hafter))
  have hany : (List.finRange 32).any (s.afterTick l).slotExpires
      = (List.finRange 32).any fun k => (s.slots[k]).any fun h =>
          h.expiresAtTick s.fences[h.cls] (s.recordFound (l ++ [.pool]) h.cls) := by
    refine congrArg (List.any _) (funext fun k => ?_)
    rw [State.slotExpires_eq, hslots]
    exact congrArg (fun f => (s.slots[k]).any f) (funext hexp)
  have hst : (if (List.finRange 32).any (s.afterTick l).slotExpires then
        (s.afterTick l).sticky.raise .forcedRelease else (s.afterTick l).sticky)
      = (s.afterTick (l ++ [.pool])).sticky := by
    have hfo : (s.afterTick l).sticky.forcedRelease = s.sticky.forcedRelease := by
      show (s.sticky.forcedRelease || (List.finRange 32).any fun k => (s.slots[k]).any fun h =>
        decide (TickTaker.pool ∈ l) && _) = _
      simp [hp]
    have hr : (s.afterTick (l ++ [.pool])).sticky
        = { (s.afterTick l).sticky with
            forcedRelease := s.sticky.forcedRelease || (List.finRange 32).any (s.afterTick l).slotExpires } := by
      rw [hany]
      unfold State.afterTick
      simp only [hela, hmon, hin, decide_true, Bool.true_and]
    rw [hr]
    cases (List.finRange 32).any (s.afterTick l).slotExpires
    · rw [Bool.or_false, ← hfo]; rfl
    · rw [Bool.or_true]; rfl
  show (s.afterTick l).tickPool = _
  rw [State.tickPool_eq, hsl, hst]
  unfold State.afterTick
  simp only [hrec, hela, hmem, hmon]

/-- The Fence Monitor takes the tick after others. -/
theorem State.afterTick_fenceMonitor (hp : TickTaker.fenceMonitor ∉ l) :
    (s.afterTick l).takeTick .fenceMonitor = s.afterTick (l ++ [.fenceMonitor]) := by
  have hmem (c : ClassId) : TickTaker.record c ∈ l ++ [.fenceMonitor] ↔ TickTaker.record c ∈ l := by simp
  have hpool : TickTaker.pool ∈ l ++ [.fenceMonitor] ↔ TickTaker.pool ∈ l := by simp
  have hin : TickTaker.fenceMonitor ∈ l ++ [.fenceMonitor] := by simp
  have hrec : s.recordAfter (l ++ [.fenceMonitor]) = s.recordAfter l := by
    funext c
    simp only [State.recordAfter, hmem]
  have hfound : s.recordFound (l ++ [.fenceMonitor]) = s.recordFound l := by
    funext c
    unfold State.recordFound
    by_cases h : TickTaker.pool ∈ l
    · rw [takeWhile_append_of_mem _ _ h]
    · rw [takeWhile_of_not_mem _ h, takeWhile_of_not_mem _ (mt hpool.mp h), hrec]
  have hela : s.elapsedRecords (l ++ [.fenceMonitor]) = s.elapsedRecords l := by
    rw [State.elapsedRecords_append]
    exact List.append_nil _
  have hfences : (s.afterTick l).fences = s.fences := if_neg hp
  have hlimit : (s.afterTick l).drainLimit = s.drainLimit := rfl
  have hf : (tabulate fun c => ((s.afterTick l).fences[c]).tick (s.afterTick l).drainLimit)
      = (s.afterTick (l ++ [.fenceMonitor])).fences := by
    rw [hfences, hlimit]
    refine Eq.trans ?_ (if_pos hin).symm
    exact congrArg tabulate (funext fun c => FenceRecord.tick_eq _ _)
  have hst : (if (List.finRange 8).any fun c => (s.afterTick l).fences[c].sticks (s.afterTick l).drainLimit then
        (s.afterTick l).sticky.raise .fenceStuck else (s.afterTick l).sticky)
      = (s.afterTick (l ++ [.fenceMonitor])).sticky := by
    have hfo : (s.afterTick l).sticky.fenceStuck = s.sticky.fenceStuck := by
      show (s.sticky.fenceStuck || (List.finRange 8).any fun c => decide (TickTaker.fenceMonitor ∈ l) && _) = _
      simp [hp]
    have hr : (s.afterTick (l ++ [.fenceMonitor])).sticky
        = { (s.afterTick l).sticky with
            fenceStuck := s.sticky.fenceStuck
              || (List.finRange 8).any fun c => (s.afterTick l).fences[c].sticks (s.afterTick l).drainLimit } := by
      rw [hfences, hlimit]
      simp only [FenceRecord.sticks_eq]
      unfold State.afterTick
      simp only [hela, hpool, hin, hfound, decide_true, Bool.true_and]
    rw [hr]
    cases (List.finRange 8).any fun c => (s.afterTick l).fences[c].sticks (s.afterTick l).drainLimit
    · rw [Bool.or_false, ← hfo]; rfl
    · rw [Bool.or_true]; rfl
  show (s.afterTick l).tickFences = _
  rw [State.tickFences_eq, hf, hst]
  unfold State.afterTick
  simp only [hrec, hela, hmem, hpool, hfound]

/-- One block more takes the tick. -/
theorem State.afterTick_takeTick (t : TickTaker) (ht : t ∉ l) :
    (s.afterTick l).takeTick t = s.afterTick (l ++ [t]) := by
  cases t with
  | record c => exact s.afterTick_record l c ht
  | pool => exact s.afterTick_pool l ht
  | fenceMonitor => exact s.afterTick_fenceMonitor l ht

/-- Blocks that take a tick one after another, each once, leave what `State.afterTick` writes out. -/
theorem State.foldl_takeTick_eq (hl : l.Nodup) : l.foldl State.takeTick s = s.afterTick l := by
  suffices h : ∀ done : List TickTaker, (done ++ l).Nodup →
      l.foldl State.takeTick (s.afterTick done) = s.afterTick (done ++ l) by
    simpa [State.afterTick_nil] using h [] hl
  clear hl
  induction l with
  | nil => intro done _; simp
  | cons t l ih =>
    intro done hd
    have ht : t ∉ done := fun h => (List.nodup_append.mp hd).2.2 t h t List.mem_cons_self rfl
    rw [List.foldl_cons, State.afterTick_takeTick _ _ _ ht, ih _ (by simpa using hd)]
    simp

/-- The settlement of ticks owed, each by one block, is the one written out. -/
theorem State.settleTicks_eq (s : State) (h : s.owedTicks.Nodup) : s.settleTicks = s.settled := by
  unfold State.settleTicks State.settled
  rw [State.foldl_takeTick_eq _ _ h]

end Sys2Proof.Machine
end

