-- ==== Sys2Proof/Tests/Slice0.lean ====
section
/-! SUPPORT. The author's tests: ill-formed terms, the manual's worked examples, one step of each command or event, and a
state and operands that meet the hypotheses of every statement that has any. -/

namespace Sys2Proof.Tests

open Sys2Proof Sys2Proof.Machine

/-! ## Helpers -/

/-- Whether an outcome is a next state that passes a test. -/
def after (o : Result) (p : State → Bool) : Bool :=
  match o with
  | .next t => p t
  | .fault f => nomatch f
  | .refused _ => false

/-- Zeros. -/
def zeros (n : Nat) : Bits := List.replicate n false

/-- The state with one class record put in. -/
def withClass (c : ClassId) (r : ClassRecord) (s : State) : State := { s with classes := s.classes.set c r }

/-- The state with one slot filled, at the young end of the arrival order. -/
def withHeld (k : SlotId) (h : HeldSlot) (s : State) : State :=
  { s with slots := s.slots.set k (some h), arrival := s.arrival ++ [k] }

/-- A RUNNING class with one descriptor active and staged. -/
def running (d : Descriptor) (credit : Int) (counter : BitVec 16) : ClassRecord :=
  { run := .running, active := d, staged := d, credit := credit, counter := counter, number := 0 }

/-- The descriptor of section 13.5. -/
def split21 : Descriptor := { Descriptor.reset with budget := 21, period := 6, mode := .split, reporting := true }

/-- The descriptor of class 2 in section 13.6. -/
def hold4 : Descriptor := { Descriptor.reset with period := 10, holdLimit := 4 }

/-- A READ of a tag and a length. -/
def readOf (tag : Tag) (length : Nat) : Request :=
  { kind := .read, tag := tag, address := 0, length := length, data := [] }

/-- A WRITE of one beat of zeros, all bytes enabled. -/
def oneBeatWrite (tag : Tag) : Request :=
  { kind := .write, tag := tag, address := 0, length := 1, data := [{ bytes := 0, enables := 0xFFFF }] }

/-- A held request, just accepted. -/
def fresh (r : Request) (c : ClassId) : HeldSlot :=
  { request := r, cls := c, wait := 0, forced := false, creditWaited := false }

/-- The state after reset while the memory controller is ready. -/
def ready : State := { State.reset with controllerReady := true }

/-- Class 1 of section 13.5 at a credit and a counter, owing a tick. -/
def class1 (credit : Int) (counter : BitVec 16) : State :=
  { withClass 1 (running split21 credit counter) State.reset with owedTicks := [.record 1] }

/-- Request A of section 13.6 at a wait, the pool owing a tick. -/
def heldA (wait : BitVec 8) : State :=
  { withHeld 3 { fresh (readOf 9 2) 2 with wait := wait, creditWaited := true }
      (withClass 2 (running hold4 0 0) State.reset) with
    owedTicks := [.pool] }

/-- A READ in flight for a class. -/
def readEntry (c : ClassId) (length returned : Nat) : Entry :=
  { tag := 3, cls := c, flight := .read length returned }

/-- A WRITE in flight for a class. -/
def writeEntry (c : ClassId) : Entry := { tag := 3, cls := c, flight := .write }

/-- A class's fence put in a state. -/
def withFence (c : ClassId) (f : FenceRecord) (s : State) : State := { s with fences := s.fences.set c f }

/-- A record of no traffic. -/
def emptyRecord (serial : BitVec 16) : PeriodRecord :=
  { facts := { cls := 1, number := 0, cause := .stop, tally := .zero, debt := 0, adopted := false, digest := none }
    serial := serial
    gap := none }

/-! ## Ill-formed terms (`Instr.wf`), each refused by name -/

theorem test_wf_short_header_empty : (Instr.shortHeaderFrame []).wf = false := by decide
theorem test_wf_short_header_twelve : (Instr.shortHeaderFrame (zeros 12)).wf = false := by decide
theorem test_wf_parity_header_good : (Instr.parityErrorFrame 1 []).wf = false := by decide
theorem test_wf_parity_header_link_reset : (Instr.parityErrorFrame 0xFFF []).wf = false := by decide
theorem test_wf_assigned_code : (Instr.unknownCommand 0x0C 0 []).wf = false := by decide
theorem test_wf_no_beats : (readOf 0 0).wf = false := by decide
theorem test_wf_seventeen_beats : (readOf 0 17).wf = false := by decide
theorem test_wf_unaligned_address : ({ readOf 0 1 with address := 8 } : Request).wf = false := by decide
theorem test_wf_read_with_data : ({ oneBeatWrite 0 with kind := .read } : Request).wf = false := by decide
theorem test_wf_write_lacks_data : ({ oneBeatWrite 0 with length := 2 } : Request).wf = false := by decide
theorem test_ill_formed_refused :
    exec (.requestAccept (readOf 0 0)) State.reset = .refused (.illFormed "REQUEST_ACCEPT") := rfl

/-! ## Worked headers and layouts (sections 12.1 and 12.2) -/

/-- START CLASS for class 6: 001100 00110 1. -/
theorem test_header_start_class :
    frameCommand [false, false, true, true, false, false, false, false, true, true, false, true]
      = .startClass 6 [] := by decide
/-- The same header as a word of twelve bits, and its command at the front of the queue. -/
theorem test_word_start_class :
    decodeTableWord 12 0b001100001101 = some (.startClass 6 [])
      ∧ (State.reset.withFetchWord 12 0b001100001101).pending = [.startClass 6 []] := by decide
/-- NO OPERATION with operand 0: eleven zeros and a one. -/
theorem test_header_no_operation : frameCommand (zeros 11 ++ [true]) = .noOperation 0 [] := by decide
/-- READ SLOT for slot 31: 011000 11111 0. -/
theorem test_header_read_slot :
    frameCommand [false, true, true, false, false, false, true, true, true, true, true, false]
      = .readSlot 31 [] := by decide
/-- Twelve zeros fail parity (section 12.2). -/
theorem test_header_zeros : frameCommand (zeros 12) = .parityErrorFrame 0 [] := by decide
/-- Twelve ones are a link reset before parity is tested (R161). -/
theorem test_header_ones : frameCommand (List.replicate 12 true) = .linkReset [] := by decide
/-- A credit of -15 is sent as 0x1FFF1 (R186). -/
theorem test_credit_field : creditBits (-15) = wordBits (0x1FFF1 : BitVec 17) := by decide

/-! ## The write digest (section 13.8) -/

/-- The write of section 13.8. -/
def digestWrite : Request :=
  { kind := .write
    tag := 0
    address := 0x0080000040
    length := 2
    data :=
      [{ bytes := 0x000000FF5A5A5A5A4433221100000000, enables := 0xF0B0 },
        { bytes := 0x80000000000000000000000000000001, enables := 0xFFFF }] }

theorem test_digest_words :
    foldWords digestWrite = [0x80000040, 0, 0x44002211, 0, 0xFF, 1, 0, 0, 0x80000000] := by decide
theorem test_digest_value : (foldWords digestWrite).foldl foldDigest 0 = 0xAD52813F := by decide

/-! ## One step of each command or event -/

/-- R167, R171: the second result shifts out the first. -/
theorem test_no_operation :
    after (exec (.noOperation 0 []) State.reset)
      (fun t => t.sdo == wordBits (1 : BitVec 4) ++ zeros 8 && t.holder == { status := .done, data := [] }) := by
  decide
/-- R184 and bring-up step 2 (section 13.1): divisor 1000 and threshold 48 in device status. -/
theorem test_read_device_status :
    after (exec (.readDeviceStatus 0 []) State.reset)
      (fun t => t.holder.data
        == zeros 52 ++ wordBits (1000 : BitVec 16) ++ zeros 16 ++ wordBits (48 : BitVec 7) ++ zeros 17) := by
  decide
/-- R183: a divisor of 16, a drain limit of 2 and a threshold of 64 are in range. -/
theorem test_set_device_controls :
    after
      (exec
        (.setDeviceControls 0
          (wordBits (16 : BitVec 16) ++ wordBits (2 : BitVec 16) ++ wordBits (64 : BitVec 7) ++ zeros 7 ++ [true]))
        { State.reset with count := 7 })
      (fun t => t.divisor == 16 && t.drainLimit == 2 && t.threshold == 64 && t.enableMask.linkError
        && t.count == 0 && t.holder.status == .done) := by
  decide
/-- R183: a divisor of 15 is refused with RANGE. -/
theorem test_set_device_controls_range :
    after
      (exec
        (.setDeviceControls 0 (wordBits (15 : BitVec 16) ++ zeros 16 ++ wordBits (64 : BitVec 7) ++ zeros 8))
        State.reset)
      (fun t => t.divisor == 1000 && t.holder.status == .range) := by
  decide
/-- R181: the named event is cleared, another stays. -/
theorem test_clear_alerts :
    after
      (exec (.clearAlerts 0 [false, false, true, false, false, false, false, false])
        { State.reset with sticky := { StickyEvents.clear with fenceDone := true, linkError := true } })
      (fun t => t.sticky == { StickyEvents.clear with linkError := true }) := by
  decide
/-- R24: the classes and the next serial start again; held requests stay. -/
theorem test_clear_regulation :
    after (exec (.clearRegulation 0 []) { heldA 1 with nextSerial := 9 })
      (fun t => t.classes[2] == ClassRecord.reset && t.nextSerial == 0 && t.slots[3].isSome) := by
  decide
/-- R29: staging a RUNNING class leaves its active descriptor. -/
theorem test_stage_running :
    after (exec (.stageDescriptor 1 Descriptor.reset.bits) (class1 5 2))
      (fun t => t.classes[1].staged == Descriptor.reset && t.classes[1].active == split21) := by
  decide
/-- R51: a class is no lender to itself. -/
theorem test_stage_self_lender :
    after (exec (.stageDescriptor 1 ({ split21 with lender := some 1 } : Descriptor).bits) State.reset)
      (fun t => t.holder.status == .invalid && t.classes[1] == ClassRecord.reset) := by
  decide
theorem test_read_active_descriptor :
    after (exec (.readActiveDescriptor 1 []) (class1 5 2)) (fun t => t.holder.data == split21.bits) := by decide
theorem test_read_staged_descriptor :
    after (exec (.readStagedDescriptor 8 []) State.reset) (fun t => t.holder.status == .range) := by decide
/-- Section 13.5: START CLASS gives credit 11, counter 0, period number 0. -/
theorem test_start_class :
    after
      (exec (.startClass 1 [])
        (withClass 1 { ClassRecord.reset with active := split21, staged := split21, number := 4 } State.reset))
      (fun t => t.classes[1] == running split21 11 0) := by
  decide
/-- R36: STOP CLASS reports with no debt and leaves credit 0. -/
theorem test_stop_class :
    after (exec (.stopClass 1 []) (class1 (-3) 5))
      (fun t => t.classes[1].run == .idle && t.classes[1].credit == 0
        && t.records.map (fun p => (p.facts.cause, p.facts.debt)) == [(Cause.stop, 0)]) := by
  decide
/-- R38: RESTART CLASS carries the debt: 11 + (-3). -/
theorem test_restart_class :
    after (exec (.restartClass 1 []) (class1 (-3) 5))
      (fun t => t.classes[1].credit == 8 && t.classes[1].number == 1 && t.classes[1].counter == 0
        && t.records.map (fun p => (p.facts.cause, p.facts.debt)) == [(Cause.restart, 3)]) := by
  decide
/-- R189: RUNNING, UNFENCED and a credit of -15 head a class status. -/
theorem test_read_class_status :
    after (exec (.readClassStatus 1 []) (class1 (-15) 5))
      (fun t => t.holder.data.take 20
        == [true, false, false] ++ wordBits (0x1FFF1 : BitVec 17)) := by
  decide
/-- R61: a whole entry is replaced. -/
theorem test_write_map_entry :
    after
      (exec (.writeMapEntry 15 ([true] ++ zeros 55 ++ [true] ++ zeros 12 ++ [true, false, true, true, true]))
        State.reset)
      (fun t => t.map[15]
        == { valid := true, base := 0, limit := 1, tagMatch := 0, tagMask := 0, filter := .write, cls := 7 }) := by
  decide
/-- R60: a base above the limit is refused with RANGE. -/
theorem test_write_map_entry_range :
    after (exec (.writeMapEntry 15 (zeros 28 ++ [true] ++ zeros 45)) State.reset)
      (fun t => t.holder.status == .range && t.map[15] == MapEntry.reset) := by
  decide
theorem test_read_map_entry :
    after (exec (.readMapEntry 0 []) State.reset)
      (fun t => t.holder == { status := .done, data := zeros 74 }) := by
  decide
/-- R90: a FREE slot reads as 74 zeros. -/
theorem test_read_slot :
    after (exec (.readSlot 31 []) State.reset) (fun t => t.holder == { status := .done, data := zeros 74 }) := by
  decide
/-- R115: a class with an entry drains, one without is FENCED at once. -/
theorem test_fence :
    after
      (exec (.fence 0 [true, true, false, false, false, false, false, false])
        { State.reset with inFlight := [writeEntry 0] })
      (fun t => t.fences[0].state == .draining && t.fences[1].state == .fenced
        && t.fences[2].state == .unfenced && t.sticky.fenceDone) := by
  decide
/-- R121: UNFENCE clears the drain timer. -/
theorem test_unfence :
    after
      (exec (.unfence 0 [true, false, false, false, false, false, false, false])
        (withFence 0 { state := .stuck, timer := 9 } { State.reset with inFlight := [writeEntry 0] }))
      (fun t => t.fences[0] == FenceRecord.reset) := by
  decide
theorem test_read_record_empty :
    after (exec (.readRecord 0 []) State.reset) (fun t => t.holder.status == .queueEmpty) := by decide
theorem test_read_record :
    after (exec (.readRecord 0 []) { State.reset with records := [emptyRecord 5], nextSerial := 6 })
      (fun t => t.holder.data.take 16 == wordBits (5 : BitVec 16) && t.records.length == 1) := by
  decide
theorem test_retire_record :
    after
      (exec (.retireRecord 0 (wordBits (5 : BitVec 16)))
        { State.reset with records := [emptyRecord 5, emptyRecord 6], nextSerial := 7 })
      (fun t => t.records == [emptyRecord 6] && t.holder.status == .done) := by
  decide
theorem test_retire_record_mismatch :
    after
      (exec (.retireRecord 0 (wordBits (6 : BitVec 16)))
        { State.reset with records := [emptyRecord 5, emptyRecord 6], nextSerial := 7 })
      (fun t => t.records.length == 2 && t.holder.status == .mismatch) := by
  decide
theorem test_zero_bit_frame : exec .zeroBitFrame (class1 5 2) = .next (class1 5 2) := rfl
/-- R159: SHORT and LINK_ERROR. -/
theorem test_short_header :
    after (exec (.shortHeaderFrame [true]) State.reset)
      (fun t => t.holder.status == .short && t.sticky.linkError) := by
  decide
/-- R161: the holder becomes EMPTY, and no event is raised. -/
theorem test_link_reset :
    after (exec (.linkReset []) { State.reset with holder := { status := .done, data := [true] } })
      (fun t => t.holder == ResponseHolder.reset && !t.sticky.linkError) := by
  decide
theorem test_parity_error :
    after (exec (.parityErrorFrame 0 []) State.reset)
      (fun t => t.holder.status == .parity && t.sticky.linkError) := by
  decide
/-- R163: UNKNOWN raises no LINK_ERROR. -/
theorem test_unknown_command :
    after (exec (.unknownCommand 0x3F 0 []) State.reset)
      (fun t => t.holder.status == .unknown && !t.sticky.linkError) := by
  decide
/-- R71: the lowest FREE slot, at the young end. -/
theorem test_request_accept :
    after (exec (.requestAccept (readOf 9 2)) (withHeld 0 (fresh (readOf 1 1) 0) State.reset))
      (fun t => t.slots[1] == some (fresh (readOf 9 2) 0) && t.arrival == [0, 1]) := by
  decide
/-- Section 13.5: a READ of 16 leaves credit 11 - 16. -/
theorem test_issue_into_debt :
    after
      (exec (.issue true) (withHeld 0 (fresh (readOf 9 16) 1) (withClass 1 (running split21 11 0) ready)))
      (fun t => t.classes[1].credit == -5 && t.tallies[1].readBeats == 16 && t.slots[0] == none
        && t.inFlight == [{ tag := 9, cls := 1, flight := .read 16 0 }]) := by
  decide
/-- Section 13.8: the digest after the issue is 0xAD52813F. -/
theorem test_issue_folds :
    after
      (exec (.issue false)
        (withHeld 0 (fresh digestWrite 7)
          (withClass 7 (running { Descriptor.reset with signing := true } 0 0) ready)))
      (fun t => t.digests[7] == 0xAD52813F && t.tallies[7].writeBeats == 2 && !t.controllerReady) := by
  decide
/-- R100, R117: the last entry of a DRAINING class leaves it FENCED. -/
theorem test_write_ack_drains :
    after
      (exec (.writeAck 3 .okay false)
        (withFence 0 { state := .draining, timer := 2 } { State.reset with inFlight := [writeEntry 0] }))
      (fun t => t.fences[0] == { state := .fenced, timer := 2 } && t.sticky.fenceDone && t.inFlight == []) := by
  decide
/-- R104: a response that matches no entry is stray, and is passed. -/
theorem test_write_ack_stray :
    after (exec (.writeAck 3 .okay true) { State.reset with inFlight := [readEntry 0 1 0] })
      (fun t => t.sticky.strayResponse && t.inFlight == [readEntry 0 1 0]
        && t.iSideOut == some (.writeAck 3 .okay true)) := by
  decide
/-- R101: an unmarked beat is counted. -/
theorem test_read_data_counts :
    after (exec (.readData 3 .okay 0 false) { State.reset with inFlight := [readEntry 0 2 0] })
      (fun t => t.inFlight == [readEntry 0 2 1] && !t.sticky.shapeError) := by
  decide
/-- R102: a marked beat that comes early raises SHAPE_ERROR, and the entry leaves. -/
theorem test_read_data_early :
    after (exec (.readData 3 .okay 0 true) { State.reset with inFlight := [readEntry 0 2 0] })
      (fun t => t.inFlight == [] && t.sticky.shapeError) := by
  decide
/-- Section 13.5: tick 6 of period 0 gives 11 + (-3), and a record with debt 3. -/
theorem test_tick_period_end :
    after (exec (.tick [] []) { class1 (-3) 5 with owedTicks := [], count := 999 })
      (fun t => t.classes[1].credit == 8 && t.classes[1].number == 1 && t.count == 0
        && t.records.map (fun p => (p.facts.cause, p.facts.debt)) == [(Cause.elapsed, 3)]) := by
  decide +kernel
/-- R83: with class 2's period end after the pool, the request that waits 3 ticks is tested against the old hold
limit of 4; with the period end before it, against the adopted one of 9. -/
theorem test_tick_pool_order :
    let s : State :=
      withClass 2 { running { hold4 with period := 1 } 0 0 with staged := { hold4 with holdLimit := 9 } }
        { heldA 3 with owedTicks := [] }
    after (exec (.tick [.pool, .record 2] []) s) (fun t => (t.slots[3]).map HeldSlot.forced == some true)
      && after (exec (.tick [.record 2, .pool] []) s) (fun t => (t.slots[3]).map HeldSlot.forced == some false) := by
  decide +kernel
/-- R177: the pool, named to take the tick later, owes it (log entry 2), and takes it before a REFCLK period passes. -/
theorem test_tick_later :
    after (exec (.tick [] [.pool]) { heldA 3 with owedTicks := [] })
      (fun t => t.owedTicks == [.pool] && t.classes[2].counter == 1 && (t.slots[3]).map HeldSlot.wait == some 3
        && t.refclk.owedTicks == [] && (t.refclk.slots[3]).map HeldSlot.wait == some 4 && t.refclk.count == 1) := by
  decide +kernel
/-- Section 13.5: the period end of period 1, 11 + (-14). -/
theorem test_period_end :
    after (exec (.periodEnd 1) (class1 (-14) 5))
      (fun t => t.classes[1].credit == -3 && t.records.map (fun p => p.facts.debt) == [14]) := by
  decide
/-- Section 13.5: the half grant at counter 3, -5 + 10. -/
theorem test_half_grant :
    after (exec (.halfGrant 1) (class1 (-5) 2))
      (fun t => t.classes[1].credit == 5 && t.classes[1].counter == 3) := by
  decide
/-- Section 13.6: A expires at wait 4. -/
theorem test_hold_limit_expiry :
    after (exec (.holdLimitExpiry 3) (heldA 3))
      (fun t => (t.slots[3]).map (fun h => (h.wait, h.forced)) == some (4, true) && t.sticky.forcedRelease) := by
  decide
/-- R118: a drain limit of 2 sticks at timer 2. -/
theorem test_drain_stuck :
    after
      (exec (.drainStuck 0)
        (withFence 0 { state := .draining, timer := 1 }
          { State.reset with drainLimit := 2, owedTicks := [.fenceMonitor] }))
      (fun t => t.fences[0] == { state := .stuck, timer := 2 } && t.sticky.fenceStuck) := by
  decide
theorem test_freeze_assert :
    after (exec .freezeAssert { State.reset with count := 30 }) (fun t => t.freeze && t.count == 0) := by decide
theorem test_freeze_release :
    after (exec .freezeRelease { State.reset with freeze := true }) (fun t => !t.freeze && t.count == 0) := by decide
/-- R91: a hard reset empties the pool and the table. -/
theorem test_hard_reset :
    after (exec .hardReset { heldA 1 with inFlight := [writeEntry 0] })
      (fun t => t.resetAsserted && t.slots[3] == none && t.inFlight == []) := by
  decide
/-- R173: an SSEL still asserted at the release is waited out. -/
theorem test_reset_release :
    after (exec (.resetRelease true) { State.reset with resetAsserted := true })
      (fun t => !t.resetAsserted && t.receiver == .awaitingNegation) := by
  decide
/-- Section 13.6: once A is gone, C heads the chain and its credit-waited flag is set. -/
theorem test_m_side_can_take_request :
    after
      (exec .mSideCanTakeRequest
        (withHeld 12 (fresh (readOf 9 2) 2) (withClass 2 (running hold4 0 0) State.reset)))
      (fun t => (t.slots[12]).map HeldSlot.creditWaited == some true && t.controllerReady) := by
  decide
/-- R69, R79: once the controller has ceased to be ready, with nothing issued, an acceptance sets no flag. -/
theorem test_m_side_ceases :
    after (exec (.issue false) (withClass 0 (running hold4 0 0) ready))
      (fun t => !t.controllerReady
        && after (exec (.requestAccept (readOf 9 2)) t)
          (fun u => (u.slots[0]).map HeldSlot.creditWaited == some false)) := by
  decide
theorem test_ssel_remnant :
    after (exec .sselRemnantNegation { State.reset with receiver := .awaitingNegation })
      (fun t => t.receiver == .ready) := by
  decide
/-- R92: the older request of the forced group goes before one of a higher priority. -/
theorem test_choice_forced_first :
    (withHeld 1 { fresh (readOf 2 1) 2 with forced := true }
      (withHeld 0 (fresh (readOf 1 1) 1)
        (withClass 2 (running hold4 0 0)
          (withClass 1 (running { split21 with priority := 3 } 5 0) ready)))).choice = some 1 := by
  decide

/-! ## A state and operands that meet the hypotheses of each statement

Each theorem is named after its statement. Where a statement has several clauses, each has its case, at a boundary of
its range. -/

theorem witness_StepRunsFrontCommand :
    ({ State.reset with pending := [.zeroBitFrame, .freezeAssert] } : State).pending
        = .zeroBitFrame :: [.freezeAssert]
      ∧ decodeTableWord 1 0 = some (.shortHeaderFrame [false]) := by decide
theorem witness_EmptyQueueIsOneRefclkPeriod :
    (State.reset.pending = [])
      ∧ ({ State.reset with resetAsserted := true } : State).resetAsserted = true
      ∧ ({ State.reset with freeze := true } : State).freeze = true
      ∧ (heldA 3).pending = [] ∧ (heldA 3).resetAsserted = false ∧ (heldA 3).freeze = false
      ∧ (heldA 3).owedTicks.Nodup ∧ (heldA 3).count + 1 < (heldA 3).divisor.toNat
      ∧ ({ State.reset with count := 998 } : State).count + 1 < State.reset.divisor.toNat
      ∧ State.reset.divisor.toNat ≤ ({ State.reset with count := 999 } : State).count + 1 := by decide
theorem witness_FrameBitsReadBack :
    (Instr.noOperation 0 []).wf = true ∧ frameBits (.noOperation 0 []) = some (zeros 11 ++ [true]) := by decide
theorem witness_LinkFramesReachOnlyTheLink :
    State.reset.resetAsserted = false ∧ State.reset.receiver = .ready
      ∧ (0x3F : BitVec 6).toNat ∉ [0x00, 0x01, 0x02, 0x03, 0x08, 0x09, 0x0A, 0x0C, 0x0D, 0x0E, 0x0F, 0x10, 0x11,
        0x18, 0x20, 0x21, 0x28, 0x29, 0x3C]
      ∧ oddOnes (wordBits (0xFFC : BitVec 12)) = false ∧ (0xFFC : BitVec 12) ≠ BitVec.allOnes 12
      ∧ 1 ≤ (zeros 1).length ∧ (zeros 11).length ≤ 11 := by decide
theorem witness_WellFormedTermsComplete :
    (Instr.shortHeaderFrame (zeros 11)).wf = true ∧ (Instr.shortHeaderFrame (zeros 12)).wf = false := by decide
theorem witness_UnreadyLinkTakesNothing :
    (Instr.linkReset []).wf = true ∧ frameBits (.linkReset []) = some (List.replicate 12 true)
      ∧ ({ State.reset with resetAsserted := true } : State).resetAsserted = true
      ∧ ({ State.reset with receiver := .awaitingNegation } : State).receiver = .awaitingNegation := by decide
theorem witness_IncompleteAndOutOfRangeFramesRefused :
    State.reset.resetAsserted = false ∧ State.reset.receiver = .ready ∧ (zeros 46).length < 47
      ∧ (zeros 7).length < 8 ∧ (zeros 81).length < 82 ∧ (zeros 73).length < 74 ∧ (zeros 15).length < 16
      ∧ 8 ≤ (8 : BitVec 5).toNat ∧ 82 ≤ (zeros 82).length ∧ 16 ≤ (16 : BitVec 5).toNat
      ∧ 74 ≤ (zeros 74).length := by decide
theorem witness_ReadsCaptureAndChangeNothing :
    State.reset.resetAsserted = false ∧ State.reset.receiver = .ready
      ∧ (31 : BitVec 5).toNat = (31 : SlotId).val ∧ (7 : BitVec 5).toNat = (7 : ClassId).val
      ∧ (15 : BitVec 5).toNat = (15 : MapId).val := by decide
theorem witness_EveryFrameIsARow : zeros 1 ≠ [] := by decide
theorem witness_ShiftedBitsAreTheHolders :
    (Instr.shortHeaderFrame (zeros 5)).wf = true ∧ frameBits (.shortHeaderFrame (zeros 5)) = some (zeros 5)
      ∧ zeros 5 ≠ [] ∧ State.reset.resetAsserted = false ∧ State.reset.receiver = .ready
      ∧ 3 < (zeros 5).length ∧ 4 < (zeros 5).length := by decide
theorem witness_PayloadLayoutsReadBack :
    82 ≤ (zeros 82).length ∧ (parseDescriptor (zeros 82)).isSome = true
      ∧ MapEntry.reset.base.toNat ≤ MapEntry.reset.limit.toNat
      ∧ 74 ≤ (zeros 74).length ∧ (parseMapEntry (zeros 74)).isSome = true := by decide
theorem witness_ResponseLayouts :
    State.reset.slots[(0 : SlotId)] = none ∧ (heldA 1).slots[(3 : SlotId)].isSome = true
      ∧ 16 ≤ State.reset.divisor.toNat ∧ 1 ≤ State.reset.threshold.toNat
      ∧ State.reset.threshold.toNat ≤ 64 := by decide
theorem witness_RecordLayout :
    ({ emptyRecord 0 with gap := some 1 } : PeriodRecord).gap = some 1
      ∧ ({ (emptyRecord 0).facts with digest := some 7 } : PeriodFacts).digest = some 7 := by decide
theorem witness_SetDeviceControlsReplacesAll :
    State.reset.resetAsserted = false ∧ State.reset.receiver = .ready ∧ 47 ≤ (zeros 47).length := by decide
theorem witness_ClearAlertsClearsTheNamed :
    State.reset.resetAsserted = false ∧ State.reset.receiver = .ready ∧ (zeros 7).length < 8
      ∧ 8 ≤ (zeros 8).length := by decide
theorem witness_ClearRegulationKeepsRequests :
    (heldA 1).resetAsserted = false ∧ (heldA 1).receiver = .ready := by decide
theorem witness_StickyEventsStayPending :
    exec .zeroBitFrame { State.reset with sticky := { StickyEvents.clear with linkError := true } }
        = .next { State.reset with sticky := { StickyEvents.clear with linkError := true } }
      ∧ (∀ (o : BitVec 5) (r : Bits), Instr.zeroBitFrame ≠ .clearAlerts o r) ∧ Instr.zeroBitFrame ≠ .hardReset :=
  ⟨rfl, nofun, nofun⟩
/-- The three clauses of STAGE DESCRIPTOR: grant-mode code 2, class 1 its own lender, and no lender. -/
theorem witness_StageDescriptorWritesOrRefuses :
    State.reset.resetAsserted = false ∧ State.reset.receiver = .ready ∧ 82 ≤ (zeros 82).length
      ∧ (1 : BitVec 5).toNat = (1 : ClassId).val
      ∧ 1 < (bitField (zeros 32 ++ [true] ++ zeros 49) 32 2).toNat
      ∧ bitField (zeros 37 ++ [true] ++ zeros 44) 34 4 = 1
      ∧ bitField (zeros 34 ++ List.replicate 4 true ++ zeros 44) 34 4 = 15 := by decide
theorem witness_StartClassOpensAPeriod :
    State.reset.resetAsserted = false ∧ State.reset.receiver = .ready ∧ 8 ≤ (8 : BitVec 5).toNat
      ∧ (1 : BitVec 5).toNat = (1 : ClassId).val
      ∧ (class1 5 2).classes[(1 : ClassId)].run = .running ∧ State.reset.classes[(1 : ClassId)].run = .idle := by
  decide
theorem witness_StopClassReportsAndIdles :
    (class1 5 2).resetAsserted = false ∧ (class1 5 2).receiver = .ready
      ∧ 8 ≤ (8 : BitVec 5).toNat ∧ (1 : BitVec 5).toNat = (1 : ClassId).val
      ∧ (class1 5 2).classes[(1 : ClassId)].run = .running
      ∧ State.reset.classes[(1 : ClassId)].run = .idle := by decide
theorem witness_RestartClassClosesAndOpens :
    (class1 (-3) 5).resetAsserted = false ∧ (class1 (-3) 5).receiver = .ready
      ∧ 8 ≤ (8 : BitVec 5).toNat ∧ (1 : BitVec 5).toNat = (1 : ClassId).val
      ∧ (class1 (-3) 5).classes[(1 : ClassId)].run = .running
      ∧ State.reset.classes[(1 : ClassId)].run = .idle := by decide
theorem witness_RecordAdmittedOrDropped :
    ({ State.reset with records := List.replicate 63 (emptyRecord 0) } : State).records.length < 64
      ∧ 64 ≤ ({ State.reset with records := List.replicate 64 (emptyRecord 0) } : State).records.length := by
  simp
theorem witness_ReadRecordShowsTheOldest :
    State.reset.resetAsserted = false ∧ State.reset.receiver = .ready ∧ State.reset.records = []
      ∧ ({ State.reset with records := [emptyRecord 0] } : State).records = emptyRecord 0 :: [] := by decide
theorem witness_RetireRecordBySerial :
    State.reset.resetAsserted = false ∧ State.reset.receiver = .ready ∧ (zeros 15).length < 16
      ∧ 16 ≤ (zeros 16).length
      ∧ State.reset.records = []
      ∧ ({ State.reset with records := [emptyRecord 0] } : State).records = emptyRecord 0 :: []
      ∧ (emptyRecord 0).serial = bitField (zeros 16) 0 16 ∧ (emptyRecord 1).serial ≠ bitField (zeros 16) 0 16 := by
  decide
theorem witness_PeriodEndClosesAndOpens :
    TickTaker.record 1 ∈ (class1 (-14) 5).owedTicks ∧ (class1 (-14) 5).classes[(1 : ClassId)].run = .running
      ∧ (class1 (-14) 5).classes[(1 : ClassId)].active.period ≠ 0
      ∧ (class1 (-14) 5).classes[(1 : ClassId)].counter + 1
          = (class1 (-14) 5).classes[(1 : ClassId)].active.period := by decide
theorem witness_HalfGrantAddsHalfTheBudget :
    TickTaker.record 1 ∈ (class1 (-5) 2).owedTicks ∧ (class1 (-5) 2).classes[(1 : ClassId)].run = .running
      ∧ (class1 (-5) 2).classes[(1 : ClassId)].active.mode = .split
      ∧ 2 ≤ (class1 (-5) 2).classes[(1 : ClassId)].active.period.toNat
      ∧ ((class1 (-5) 2).classes[(1 : ClassId)].counter + 1).toNat
          = (class1 (-5) 2).classes[(1 : ClassId)].active.period.toNat / 2 := by decide
theorem witness_HoldLimitExpiryForces :
    let h : HeldSlot := { fresh (readOf 9 2) 2 with wait := 3, creditWaited := true }
    TickTaker.pool ∈ (heldA 3).owedTicks ∧ (heldA 3).slots[(3 : SlotId)] = some h
      ∧ (heldA 3).fences[h.cls].state = .unfenced ∧ (heldA 3).classes[h.cls].run = .running
      ∧ (heldA 3).classes[h.cls].active.period ≠ 0 ∧ (heldA 3).classes[h.cls].active.holdLimit ≠ 0
      ∧ h.forced = false
      ∧ (heldA 3).classes[h.cls].active.holdLimit.toNat ≤ min (h.wait.toNat + 1) 255 := by decide

/-- A DRAINING class 0 at a drain timer, with a drain limit of 2, the Fence Monitor owing a tick. -/
def draining (timer : BitVec 16) : State :=
  withFence 0 { state := .draining, timer := timer }
    { State.reset with drainLimit := 2, inFlight := [writeEntry 0], owedTicks := [.fenceMonitor] }

theorem witness_DrainLimitSticks :
    TickTaker.fenceMonitor ∈ (draining 1).owedTicks ∧ (draining 1).fences[(0 : ClassId)].state = .draining
      ∧ (draining 1).drainLimit ≠ 0
      ∧ (draining 1).drainLimit.toNat ≤ min ((draining 1).fences[(0 : ClassId)].timer.toNat + 1) 65535 := by decide
theorem witness_TickEventsNotDueChangeNothing :
    let h : HeldSlot := { fresh (readOf 9 2) 2 with wait := 2, creditWaited := true }
    TickTaker.record 1 ∉ State.reset.owedTicks ∧ State.reset.classes[(1 : ClassId)].run = .idle
      ∧ State.reset.classes[(1 : ClassId)].active.period = 0
      ∧ (class1 0 4).classes[(1 : ClassId)].counter + 1 ≠ (class1 0 4).classes[(1 : ClassId)].active.period
      ∧ ((class1 0 3).classes[(1 : ClassId)].counter + 1).toNat
          ≠ (class1 0 3).classes[(1 : ClassId)].active.period.toNat / 2
      ∧ hold4.mode = .whole ∧ ({ split21 with period := 1 } : Descriptor).period.toNat < 2
      ∧ TickTaker.pool ∉ State.reset.owedTicks ∧ State.reset.slots[(3 : SlotId)] = none
      ∧ (heldA 2).slots[(3 : SlotId)] = some h
      ∧ min (h.wait.toNat + 1) 255 < (heldA 2).classes[h.cls].active.holdLimit.toNat
      ∧ (withFence 2 { state := .fenced, timer := 0 } (heldA 2)).fences[h.cls].state ≠ .unfenced
      ∧ (withClass 2 .reset (heldA 2)).classes[h.cls].run = .idle
      ∧ (withClass 2 .reset (heldA 2)).classes[h.cls].active.holdLimit = 0
      ∧ ({ h with forced := true } : HeldSlot).forced = true
      ∧ TickTaker.fenceMonitor ∉ State.reset.owedTicks ∧ State.reset.fences[(0 : ClassId)].state ≠ .draining
      ∧ State.reset.drainLimit = 0
      ∧ min ((draining 0).fences[(0 : ClassId)].timer.toNat + 1) 65535 < (draining 0).drainLimit.toNat := by decide
theorem witness_TickReachesEveryBlockOnce :
    (class1 (-3) 5).resetAsserted = false ∧ (class1 (-3) 5).freeze = false ∧ (class1 (-3) 5).owedTicks.Nodup := by
  decide
theorem witness_TickTakenLaterIsOwed :
    let later : List TickTaker := [.record 2, .fenceMonitor, .pool]
    (heldA 3).resetAsserted = false ∧ (heldA 3).freeze = false ∧ (heldA 3).owedTicks.Nodup
      ∧ TickTaker.record 2 ∈ later ∧ TickTaker.fenceMonitor ∈ later ∧ TickTaker.pool ∈ later
      ∧ ((heldA 3).settled.slots[(3 : SlotId)]).isSome = true ∧ (heldA 3).settled.slots[(4 : SlotId)] = none := by
  refine ⟨by decide, by decide, by decide, by decide, by decide, by decide, ?_, ?_⟩ <;> decide +kernel
theorem witness_FreezeHoldsTicksOff :
    (heldA 3).freeze = false ∧ (heldA 3).owedTicks.Nodup
      ∧ ({ State.reset with freeze := true } : State).freeze = true
      ∧ ({ State.reset with freeze := true } : State).pending = [] := by decide

/-- A map whose entry 1 sends the whole address space to class 5, entry 0 being invalid. -/
def mapped : State :=
  { State.reset with
    map :=
      State.reset.map.set 1
        { valid := true, base := 0, limit := 0xFFFFFFF, tagMatch := 0, tagMask := 0, filter := .read, cls := 5 } }

/-- Entry 1 matches a READ at address 0 and entry 0 does not; after reset none does. -/
theorem witness_ClassificationByFirstMatch :
    (mapped.map[(1 : MapId)].valid = true
        ∧ mapped.map[(1 : MapId)].base.toNat * 4096 ≤ (readOf 9 2).address.toNat
        ∧ (readOf 9 2).address.toNat ≤ mapped.map[(1 : MapId)].limit.toNat * 4096 + 4095
        ∧ (∀ b : Nat, mapped.map[(1 : MapId)].tagMask.getLsbD b = true →
            (readOf 9 2).tag.getLsbD b = mapped.map[(1 : MapId)].tagMatch.getLsbD b)
        ∧ mapped.map[(1 : MapId)].filter = .read ∧ (readOf 9 2).kind = .read)
      ∧ (∀ j : MapId, j < 1 → mapped.map[j].valid = false) ∧ ∀ i : MapId, State.reset.map[i].valid = false := by
  refine ⟨⟨by decide, by decide, by decide, fun b hb => ?_, by decide, by decide⟩, by decide, by decide⟩
  simp [mapped] at hb
theorem witness_WriteMapEntryReplacesTheEntry :
    State.reset.resetAsserted = false ∧ State.reset.receiver = .ready ∧ 74 ≤ (zeros 74).length
      ∧ (15 : BitVec 5).toNat = (15 : MapId).val
      ∧ bitField (zeros 69 ++ [true, true] ++ zeros 3) 69 2 = 3
      ∧ (bitField (zeros 28 ++ [true] ++ zeros 45) 29 28).toNat < (bitField (zeros 28 ++ [true] ++ zeros 45) 1 28).toNat
      ∧ bitField (zeros 74) 69 2 ≠ 3 ∧ (bitField (zeros 74) 1 28).toNat ≤ (bitField (zeros 74) 29 28).toNat := by
  decide

/-- A state whose slots 0 to 30 are HELD. -/
def oneFree : State :=
  { State.reset with slots := (Vector.replicate 32 (some (fresh (readOf 9 2) 0))).set 31 none }

theorem witness_AcceptTakesTheLowestFreeSlot :
    (readOf 9 16).wf = true ∧ oneFree.resetAsserted = false ∧ oneFree.slots[(31 : SlotId)] = none
      ∧ ∀ j : SlotId, j < 31 → oneFree.slots[j] ≠ none := by decide
theorem witness_UnreadyPortsTakeNothing :
    (readOf 9 16).wf = true ∧ ({ State.reset with resetAsserted := true } : State).resetAsserted = true
      ∧ ∀ k : SlotId,
          ({ State.reset with slots := Vector.replicate 32 (some (fresh (readOf 9 2) 0)) } : State).slots[k] ≠ none := by
  decide
theorem witness_JudgementSetsCreditWaited :
    State.reset.controllerReady = false ∧ ({ ready with resetAsserted := true } : State).resetAsserted = true
      ∧ ready.slots[(0 : SlotId)] = none ∧ ({ heldA 1 with controllerReady := true } : State).controllerReady = true
      ∧ (heldA 1).slots[(3 : SlotId)].isSome = true ∧ (heldA 1).resetAsserted = false := by decide

/-- One request of class 1, which is to issue on its own credit. -/
def issuing : State := withHeld 0 (fresh (readOf 9 16) 1) (withClass 1 (running split21 11 0) ready)

theorem witness_EligibilityIsFourConditions :
    issuing.slots[(0 : SlotId)] = some (fresh (readOf 9 16) 1) := by decide
theorem witness_ArbiterChoosesForcedThenPriorityThenAge : issuing.choice = some 0 := by decide
theorem witness_IssueIsOneEvent :
    issuing.resetAsserted = false ∧ issuing.controllerReady = true ∧ issuing.choice = some 0
      ∧ issuing.slots[(0 : SlotId)] = some (fresh (readOf 9 16) 1)
      ∧ issuing.creditMeans (fresh (readOf 9 16) 1) = some .own := by decide
theorem witness_NoIssueWithoutReadinessOrEligibility :
    State.reset.controllerReady = false ∧ ({ ready with resetAsserted := true } : State).resetAsserted = true
      ∧ ready.choice = none := by decide
theorem witness_DigestFoldsAddressAndEnabledBytes :
    (0x80000000 : Digest).getLsbD 31 = true ∧ (0x7FFFFFFF : Digest).getLsbD 31 = false
      ∧ (digestWrite.data[1]?).isSome = true := by decide
theorem witness_WriteAckRemovesTheOldestMatch :
    let s : State := { State.reset with inFlight := [readEntry 0 1 0, writeEntry 1] }
    s.resetAsserted = false ∧ (∀ e ∈ s.inFlight, ¬ (e.flight = .write ∧ e.tag = 4))
      ∧ s.inFlight = [readEntry 0 1 0] ++ writeEntry 1 :: []
      ∧ (∀ x ∈ [readEntry 0 1 0], ¬ (x.flight = .write ∧ x.tag = 3)) ∧ (writeEntry 1).flight = .write
      ∧ (writeEntry 1).tag = 3 := by decide
theorem witness_ReadDataCountsTheOldestMatch :
    let s : State := { State.reset with inFlight := [writeEntry 1, readEntry 0 2 1] }
    s.resetAsserted = false ∧ (∀ e ∈ s.inFlight, ¬ (e.flight ≠ .write ∧ e.tag = 4))
      ∧ s.inFlight = [writeEntry 1] ++ readEntry 0 2 1 :: []
      ∧ (∀ x ∈ [writeEntry 1], ¬ (x.flight ≠ .write ∧ x.tag = 3)) ∧ (readEntry 0 2 1).flight = .read 2 1
      ∧ (readEntry 0 2 1).tag = 3 := by decide
theorem witness_FenceSetsTheNamedClasses :
    (draining 0).resetAsserted = false ∧ (draining 0).receiver = .ready ∧ 8 ≤ (List.replicate 8 true).length
      ∧ (List.replicate 8 true).getD (7 : ClassId).val false = true
      ∧ (draining 0).fences[(7 : ClassId)].state = .unfenced
      ∧ (draining 0).fences[(0 : ClassId)].state ≠ .unfenced ∧ (zeros 8).getD (0 : ClassId).val false = false := by
  decide
theorem witness_UnfenceFreesTheNamedClasses :
    (draining 1).resetAsserted = false ∧ (draining 1).receiver = .ready ∧ 8 ≤ (List.replicate 8 true).length := by
  decide
theorem witness_FencedClassGainsNoEntry :
    exec .zeroBitFrame (draining 1) = .next (draining 1) ∧ (draining 1).fences[(0 : ClassId)].state ≠ .unfenced :=
  ⟨rfl, by decide⟩
theorem witness_ResetPinAndRemnant :
    ({ State.reset with resetAsserted := true } : State).resetAsserted = true
      ∧ State.reset.resetAsserted = false := by decide
theorem witness_ResetHoldsEveryBlock :
    let s : State := { State.reset with resetAsserted := true, freeze := true, refclkTicks := 4 }
    s.resetAsserted = true ∧ s.ResetSound ∧ (∀ b : Bool, Instr.zeroBitFrame ≠ .resetRelease b)
      ∧ exec .zeroBitFrame s = .next s :=
  ⟨rfl, fun _ => rfl, nofun, rfl⟩
theorem witness_HeldRequestsLeaveByIssueAlone :
    exec .zeroBitFrame issuing = .next issuing ∧ Instr.zeroBitFrame ≠ .hardReset
      ∧ issuing.slots[(0 : SlotId)] = some (fresh (readOf 9 16) 1) :=
  ⟨rfl, nofun, by decide⟩
theorem witness_FramesLeaveTheMemoryPathAlone :
    frameBits .zeroBitFrame = some [] ∧ exec .zeroBitFrame issuing = .next issuing := ⟨rfl, rfl⟩
theorem witness_ExecLeavesTheQueue : exec .zeroBitFrame issuing = .next issuing := rfl

/-- A sound state with something in every block: class 1 in debt, class 4 its lender, class 1 and the pool owing a
tick, a held request, a draining class with a READ in flight, a FENCED class, a map entry, a record. -/
def busy : State :=
  { State.reset with
    map := mapped.map
    classes :=
      (State.reset.classes.set 1 (running { split21 with lender := some 4 } (-5) 2)).set 4 (running split21 11 0)
    slots := State.reset.slots.set 0 (some (fresh (readOf 9 16) 1))
    arrival := [0]
    inFlight := [readEntry 2 4 1]
    fences :=
      (State.reset.fences.set 2 { state := .draining, timer := 3 }).set 3 { state := .fenced, timer := 0 }
    records := [emptyRecord 0]
    nextSerial := 1
    owedTicks := [.record 1, .pool] }

theorem busy_steps : step busy = .next busy.refclk := rfl
theorem busy_classes : busy.ClassesSound := by
  intro c
  fin_cases c <;> simp [busy, ClassRecord.Sound, ClassRecord.kind, running, split21, State.reset, ClassRecord.reset,
    Descriptor.reset]
theorem busy_lending : busy.LendingSound := by
  intro c l
  fin_cases c <;> fin_cases l <;> decide
theorem busy_map : busy.MapSound := by
  intro i
  fin_cases i <;> decide
theorem busy_pool : busy.PoolSound := by
  refine ⟨by decide, by decide, fun k h hk => ?_⟩
  have only (k : SlotId) : k = 0 ∨ busy.slots[k] = none := by
    revert k
    decide
  rcases only k with rfl | h0
  · cases (show fresh (readOf 9 16) 1 = h from Option.some.inj hk)
    decide
  · rw [h0] at hk
    cases hk
theorem busy_flight : busy.FlightSound := by
  refine ⟨by decide, fun e he => ?_⟩
  cases List.mem_singleton.mp he
  exact ⟨by decide, by decide, by decide⟩
theorem busy_fences : busy.FencesSound := by
  intro c
  fin_cases c <;> rfl
theorem busy_queue : busy.QueueSound := by
  refine ⟨by decide, fun i p hp => ?_, by decide⟩
  cases i with
  | zero =>
    cases (show emptyRecord 0 = p from Option.some.inj hp)
    decide
  | succ i => cases hp
theorem busy_sound : busy.Sound :=
  { classes := busy_classes
    lending := busy_lending
    map := busy_map
    pool := busy_pool
    flight := busy_flight
    fences := busy_fences
    queue := busy_queue
    settings := ⟨by decide, by decide, by decide, by decide⟩
    holder := .inr rfl
    freeze := nofun
    owed := ⟨by decide, by decide⟩
    reset := nofun }

theorem witness_LendingLawKept : busy.LendingSound ∧ step busy = .next busy.refclk := ⟨busy_lending, busy_steps⟩
theorem witness_FenceLawKept : busy.FencesSound ∧ step busy = .next busy.refclk := ⟨busy_fences, busy_steps⟩
theorem witness_SerialLawKept : busy.QueueSound ∧ step busy = .next busy.refclk := ⟨busy_queue, busy_steps⟩
theorem witness_CreditLawKept : busy.ClassesSound ∧ busy.PoolSound ∧ step busy = .next busy.refclk :=
  ⟨busy_classes, busy_pool, busy_steps⟩
theorem witness_SoundKeptByEveryStep : busy.Sound ∧ step busy = .next busy.refclk := ⟨busy_sound, busy_steps⟩

end Sys2Proof.Tests
end

section
/-! SUPPORT. A command on one class (R34, R36, R38): what START, STOP and RESTART CLASS make of the class that their
operand names, and the three obligations on them. -/

namespace Sys2Proof.Machine

/-! ## A command whose operand names a class -/

/-- A taken command whose operand names no class does nothing but answer RANGE (R165). -/
theorem State.onCommand_onClass_range (s : State) (o : BitVec 5) (r : Bits) (f : ClassId → State → State)
    (hr : s.resetAsserted = false) (hl : s.receiver = .ready) (ho : 8 ≤ o.toNat) :
    (s.onCommand r fun t => t.onClass o f) = s.answered (12 + r.length) .range [] := by
  rw [s.onCommand_taken r _ hr hl, State.onClass_range _ o f ho]
  exact s.load_shiftOut _ _ _

/-- A taken command on the class that its operand names acts once the previous result is shifted out. -/
theorem State.onCommand_onClass_of (s : State) (o : BitVec 5) (r : Bits) (c : ClassId)
    (f : ClassId → State → State) (hr : s.resetAsserted = false) (hl : s.receiver = .ready)
    (ho : o.toNat = c.val) :
    (s.onCommand r fun t => t.onClass o f) = f c (s.shiftOut (12 + r.length)) := by
  rw [s.onCommand_taken r _ hr hl, State.onClass_of _ o c f ho]

theorem exec_startClass (o : BitVec 5) (r : Bits) (s : State) :
    exec (.startClass o r) s = .next (s.onCommand r fun t => t.onClass o State.startOn) := rfl

theorem exec_stopClass (o : BitVec 5) (r : Bits) (s : State) :
    exec (.stopClass o r) s = .next (s.onCommand r fun t => t.onClass o State.stopOn) := rfl

theorem exec_restartClass (o : BitVec 5) (r : Bits) (s : State) :
    exec (.restartClass o r) s = .next (s.onCommand r fun t => t.onClass o State.restartOn) := rfl

/-! ## The credit of a class that starts, and the facts of a period that closes -/

/-- The credit at START CLASS is the renewed credit of a class without debt, written out (R10). -/
theorem Descriptor.startCredit_eq (d : Descriptor) :
    d.startCredit
      = if d.period = 0 then 0
        else if d.mode = .split ∧ d.period ≠ 1 then (((d.budget.toNat + 1) / 2 : Nat) : Int)
        else (d.budget.toNat : Int) := by
  have hrenewed : d.startCredit = d.renewedCredit 0 := by
    simp [Descriptor.startCredit, Descriptor.renewedCredit]
  rw [hrenewed, Descriptor.renewedCredit_eq]
  simp only [min_self, add_zero]

/-- The facts of a period with its debt and its test of adoption written out (R142, R143). -/
theorem State.periodFacts_eq (s : State) (c : ClassId) (cause : Cause) :
    s.periodFacts c cause
      = { cls := c
          number := s.classes[c].number
          cause := cause
          tally := s.tallies[c]
          debt := if cause = .stop then 0 else (min s.classes[c].credit 0).natAbs
          adopted := decide (s.classes[c].staged ≠ s.classes[c].active)
          digest := if s.classes[c].active.signing then some s.digests[c] else none } := by
  have hadopted : ∀ a b : Descriptor, (a != b) = decide (a ≠ b) := fun a b => by
    rw [Bool.eq_iff_iff, bne_iff_ne, decide_eq_true_iff]
  unfold State.periodFacts debtOf
  simp only [hadopted]

/-! ## A report -/

/-- A report leaves the class records. -/
@[simp] theorem State.report_classes (s : State) (c : ClassId) (cause : Cause) :
    (s.report c cause).classes = s.classes := by
  rw [s.report_frame c cause]

/-- A hand-over and the shifting out of a result commute. -/
theorem State.handOver_shiftOut (s : State) (p : PeriodFacts) (n : Nat) :
    (s.shiftOut n).handOver p = (s.handOver p).shiftOut n := by
  unfold State.handOver
  rw [State.shiftOut_records]
  split <;> rfl

/-- A report and the shifting out of a result commute. -/
theorem State.report_shiftOut (s : State) (c : ClassId) (cause : Cause) (n : Nat) :
    (s.shiftOut n).report c cause = (s.report c cause).shiftOut n := by
  have hfacts : (s.shiftOut n).periodFacts c cause = s.periodFacts c cause := rfl
  unfold State.report
  rw [State.shiftOut_classes, State.handOver_shiftOut, hfacts]
  split <;> rfl

/-! ## The effect on the named class -/

theorem State.startOn_running (s : State) (c : ClassId) (h : s.classes[c].run = .running) :
    s.startOn c = s.load .state [] := by
  rw [State.startOn, h]

/-- START CLASS on an IDLE class (R34). -/
theorem State.startOn_idle (s : State) (c : ClassId) (h : s.classes[c].run = .idle) :
    s.startOn c
      = ({ s.load .done [] with
            classes := s.classes.set c s.classes[c].start
            tallies := s.tallies.set c .zero
            digests := s.digests.set c s.classes[c].active.seed } : State).judged := by
  have hperiod : (s.updateClass c ClassRecord.start).startPeriod c
      = { s with
          classes := s.classes.set c s.classes[c].start
          tallies := s.tallies.set c .zero
          digests := s.digests.set c s.classes[c].active.seed } := by
    simp [State.startPeriod, State.updateClass, ClassRecord.start]
  rw [State.startOn, h]
  dsimp only
  rw [hperiod, State.answerDone, State.load_judged]
  rfl

theorem State.stopOn_idle (s : State) (c : ClassId) (h : s.classes[c].run = .idle) :
    s.stopOn c = s.load .state [] := by
  rw [State.stopOn, h]

/-- STOP CLASS on a RUNNING class (R36). -/
theorem State.stopOn_running (s : State) (c : ClassId) (h : s.classes[c].run = .running) :
    s.stopOn c
      = ({ (s.report c .stop).load .done [] with
            classes := s.classes.set c s.classes[c].stop } : State).judged := by
  rw [State.stopOn, h]
  dsimp only
  rw [State.answerDone, State.load_judged, State.updateClass, State.report_classes]
  rfl

theorem State.restartOn_idle (s : State) (c : ClassId) (h : s.classes[c].run = .idle) :
    s.restartOn c = s.load .state [] := by
  rw [State.restartOn, h]

/-- RESTART CLASS on a RUNNING class (R38). -/
theorem State.restartOn_running (s : State) (c : ClassId) (h : s.classes[c].run = .running) :
    s.restartOn c
      = ({ (s.report c .restart).load .done [] with
            classes := s.classes.set c s.classes[c].renew
            tallies := s.tallies.set c .zero
            digests := s.digests.set c s.classes[c].staged.seed } : State).judged := by
  rw [State.restartOn, h]
  dsimp only
  rw [State.answerDone, State.load_judged, State.renewPeriod_eq]
  rfl

/-! ## The obligations on START, STOP and RESTART CLASS -/

/-- Settles O20: an operand out of range, a RUNNING class, and an IDLE class with its opening credit written out. -/
theorem startClassOpensAPeriod : Obligations.StartClassOpensAPeriod := by
  intro s o r hr hl
  rw [exec_startClass]
  refine ⟨fun ho => by rw [s.onCommand_onClass_range o r _ hr hl ho], fun c ho => ?_⟩
  rw [s.onCommand_onClass_of o r c _ hr hl ho]
  constructor
  · intro hrun
    rw [(s.shiftOut _).startOn_running c hrun, State.load_shiftOut]
  · intro hidle
    rw [(s.shiftOut _).startOn_idle c hidle, State.load_shiftOut, ClassRecord.start, Descriptor.startCredit_eq]
    rfl

/-- Settles O21: an operand out of range, an IDLE class, and a RUNNING class, whose report commutes with the shifting
out of the previous result. -/
theorem stopClassReportsAndIdles : Obligations.StopClassReportsAndIdles := by
  intro s o r hr hl
  rw [exec_stopClass]
  refine ⟨fun ho => by rw [s.onCommand_onClass_range o r _ hr hl ho], fun c ho => ?_⟩
  rw [s.onCommand_onClass_of o r c _ hr hl ho]
  constructor
  · intro hidle
    rw [(s.shiftOut _).stopOn_idle c hidle, State.load_shiftOut]
  · intro hrun
    rw [(s.shiftOut _).stopOn_running c hrun, State.report_shiftOut, State.load_shiftOut, State.report,
      State.periodFacts_eq]
    rfl

/-- Settles O22: an operand out of range, an IDLE class, and a RUNNING class, whose report commutes with the shifting
out of the previous result, with the renewed credit written out. -/
theorem restartClassClosesAndOpens : Obligations.RestartClassClosesAndOpens := by
  intro s o r hr hl
  rw [exec_restartClass]
  refine ⟨fun ho => by rw [s.onCommand_onClass_range o r _ hr hl ho], fun c ho => ?_⟩
  rw [s.onCommand_onClass_of o r c _ hr hl ho]
  constructor
  · intro hidle
    rw [(s.shiftOut _).restartOn_idle c hidle, State.load_shiftOut]
  · intro hrun
    rw [(s.shiftOut _).restartOn_running c hrun, State.report_shiftOut, State.load_shiftOut, State.report,
      State.periodFacts_eq, ClassRecord.renew, Descriptor.renewedCredit_eq]
    rfl

end Sys2Proof.Machine
end

section
/-! SUPPORT. STAGE DESCRIPTOR (R28, R29, R51): the range tests of a payload, the lending validation, and the
obligation on the command. -/

namespace Sys2Proof.Machine

theorem exec_stageDescriptor (o : BitVec 5) (r : Bits) (s : State) :
    exec (.stageDescriptor o r) s = execStageDescriptor o r s := rfl

/-! ## The range tests of a payload (R28) -/

/-- The grant-mode code and the lender code of a descriptor payload are in range (R28). -/
def descriptorInRange (bs : Bits) : Prop :=
  (bitField bs 32 2).toNat ≤ 1 ∧ ((bitField bs 34 4).toNat ≤ 7 ∨ (bitField bs 34 4).toNat = 15)

/-- The descriptor that a payload in range spells (R188). -/
def descriptorOf (bs : Bits) : Descriptor :=
  { budget := bitField bs 0 16
    period := bitField bs 16 16
    mode := if bitField bs 32 2 = 0 then .whole else .split
    lender := if bitField bs 34 4 = 15 then none else some (Fin.ofNat 8 (bitField bs 34 4).toNat)
    priority := bitField bs 38 2
    holdLimit := bitField bs 40 8
    signing := bs.getD 48 false
    reporting := bs.getD 49 false
    seed := bitField bs 50 32 }

theorem modeOfCode_eq : ∀ code : BitVec 2,
    modeOfCode code = if code.toNat ≤ 1 then some (if code = 0 then .whole else .split) else none := by
  decide

theorem lenderOfCode_eq : ∀ code : BitVec 4,
    lenderOfCode code
      = if code.toNat ≤ 7 ∨ code.toNat = 15 then
          some (if code = 15 then none else some (Fin.ofNat 8 code.toNat))
        else none := by
  decide

/-- A payload in range is read as the descriptor it spells. -/
theorem parseDescriptor_of_inRange (bs : Bits) (h : descriptorInRange bs) :
    parseDescriptor bs = some (descriptorOf bs) := by
  obtain ⟨hmode, hlender⟩ := h
  rw [parseDescriptor, modeOfCode_eq, lenderOfCode_eq, if_pos hmode, if_pos hlender]
  rfl

/-- A payload out of range is not read. -/
theorem parseDescriptor_of_not_inRange (bs : Bits) (h : ¬ descriptorInRange bs) : parseDescriptor bs = none := by
  rw [parseDescriptor, modeOfCode_eq, lenderOfCode_eq]
  by_cases hmode : (bitField bs 32 2).toNat ≤ 1
  · rw [if_pos hmode, if_neg fun hlender => h ⟨hmode, hlender⟩]
  · rw [if_neg hmode]

/-! ## The lending validation (R51) -/

theorem ClassRecord.borrows_iff (r : ClassRecord) :
    r.borrows = true ↔ r.active.lender ≠ none ∨ r.staged.lender ≠ none := by
  simp [ClassRecord.borrows, Option.isSome_iff_ne_none]

theorem ClassRecord.names_iff (r : ClassRecord) (l : ClassId) :
    r.names l = true ↔ r.active.lender = some l ∨ r.staged.lender = some l := by
  simp [ClassRecord.names]

/-- A class of the table meets a test exactly when one of the eight identifiers names such a class. -/
theorem any_classes_iff (v : Vector ClassRecord 8) (p : ClassRecord → Bool) :
    (v.toList.any p) = true ↔ ∃ b : ClassId, p v[b] = true := by
  simp only [List.any_eq_true, Vector.mem_toList_iff, Vector.mem_iff_getElem]
  constructor
  · rintro ⟨_, ⟨i, hi, rfl⟩, hp⟩
    exact ⟨⟨i, hi⟩, hp⟩
  · rintro ⟨b, hp⟩
    exact ⟨_, ⟨b.val, b.isLt, rfl⟩, hp⟩

/-- The descriptors that the lending validation refuses for class `c` (R51). -/
theorem State.lendingRefuses_iff (s : State) (c : ClassId) (d : Descriptor) :
    s.lendingRefuses c d = true
      ↔ ∃ l : ClassId, d.lender = some l
          ∧ (l = c ∨ s.classes[l].active.lender ≠ none ∨ s.classes[l].staged.lender ≠ none
            ∨ ∃ b : ClassId, s.classes[b].active.lender = some c ∨ s.classes[b].staged.lender = some c) := by
  unfold State.lendingRefuses
  cases d.lender with
  | none => simp
  | some l =>
    simp only [Bool.or_eq_true, beq_iff_eq, any_classes_iff, ClassRecord.borrows_iff, ClassRecord.names_iff,
      Option.some.injEq, exists_eq_left', or_assoc]

/-! ## The effect of the command (R29) -/

/-- Staging replaces the staged descriptor, and the active one of an IDLE class too. -/
theorem ClassRecord.stage_eq (d : Descriptor) (r : ClassRecord) :
    r.stage d = { r with staged := d, active := if r.run = .idle then d else r.active } := by
  unfold ClassRecord.stage
  cases r.run <;> rfl

theorem State.stageOn_refused (s : State) (c : ClassId) (d : Descriptor) (h : s.lendingRefuses c d = true) :
    s.stageOn d c = s.load .invalid [] := by
  rw [State.stageOn, if_pos h]

theorem State.stageOn_written (s : State) (c : ClassId) (d : Descriptor) (h : ¬ s.lendingRefuses c d = true) :
    s.stageOn d c
      = ({ s.load .done [] with classes := s.classes.set c (s.classes[c].stage d) } : State).judged := by
  rw [State.stageOn, if_neg h, State.answerDone, State.load_judged]
  rfl

/-- A complete payload out of range is refused with RANGE (R28). -/
theorem exec_stageDescriptor_not_inRange (s : State) (o : BitVec 5) (r : Bits) (hr : s.resetAsserted = false)
    (hl : s.receiver = .ready) (hn : 82 ≤ r.length) (hrange : ¬ descriptorInRange r) :
    exec (.stageDescriptor o r) s = .next (s.answered (12 + r.length) .range []) := by
  rw [exec_stageDescriptor, execStageDescriptor, s.onPayload_whole descriptorLength r _ hr hl hn,
    parseDescriptor_of_not_inRange r hrange]
  rfl

/-- A complete payload in range on a named class is validated and written. -/
theorem exec_stageDescriptor_inRange (s : State) (o : BitVec 5) (r : Bits) (c : ClassId)
    (hr : s.resetAsserted = false) (hl : s.receiver = .ready) (hn : 82 ≤ r.length) (ho : o.toNat = c.val)
    (hrange : descriptorInRange r) :
    exec (.stageDescriptor o r) s = .next ((s.shiftOut (12 + r.length)).stageOn (descriptorOf r) c) := by
  rw [exec_stageDescriptor, execStageDescriptor, s.onPayload_whole descriptorLength r _ hr hl hn,
    parseDescriptor_of_inRange r hrange]
  dsimp only
  rw [State.onClass_of _ o c _ ho]

/-! ## The obligation on STAGE DESCRIPTOR -/

/-- Settles O19: the range tests of the payload first, then the lending validation, which reads the class records
alone and so finds the same with the previous result shifted out. -/
theorem stageDescriptorWritesOrRefuses : Obligations.StageDescriptorWritesOrRefuses := by
  intro s o r c hr hl hn ho inRange d refused
  have hrefused : (s.shiftOut (12 + r.length)).lendingRefuses c (descriptorOf r) = true ↔ refused :=
    State.lendingRefuses_iff _ c _
  refine ⟨fun hrange => ?_, fun hrange hbad => ?_, fun hrange hgood => ?_⟩
  · exact exec_stageDescriptor_not_inRange s o r hr hl hn hrange
  · rw [exec_stageDescriptor_inRange s o r c hr hl hn ho hrange, State.stageOn_refused _ c _ (hrefused.mpr hbad),
      State.load_shiftOut]
  · rw [exec_stageDescriptor_inRange s o r c hr hl hn ho hrange,
      State.stageOn_written _ c _ (mt hrefused.mp hgood), State.load_shiftOut, ClassRecord.stage_eq]
    rfl

end Sys2Proof.Machine
end

section
/-! SUPPORT. The credit condition (R44, R45, R77): one equation per means, in the order in which they are tried, and
the obligation on them. `Fin.getElem_fin` stays out of `simp`, so that a table's index stays a class identifier. -/

namespace Sys2Proof.Machine

variable (s : State) (h : HeldSlot)

/-! ## The means of the credit condition, in the order of R45 -/

/-- A class lends to a request when it is regulated and its credit covers the whole length (R44, conditions 5
and 6). -/
theorem State.canLend_iff (l : ClassId) (q : Request) :
    s.canLend l q = true ↔ s.classes[l].isRegulated = true ∧ (q.length : Int) ≤ s.classes[l].credit := by
  simp [State.canLend]

/-- An IDLE or open class needs no credit. -/
theorem State.creditMeans_of_not_regulated (hr : ¬ s.classes[h.cls].isRegulated = true) :
    s.creditMeans h = some .free := by
  simp [-Fin.getElem_fin, State.creditMeans, hr]

/-- The forced flag of a regulated class's request comes before any credit. -/
theorem State.creditMeans_of_forced (hr : s.classes[h.cls].isRegulated = true) (hf : h.forced = true) :
    s.creditMeans h = some .forced := by
  simp [-Fin.getElem_fin, State.creditMeans, hr, hf]

/-- Own credit comes before the lender's, and is not compared with the length (R77). -/
theorem State.creditMeans_of_own (hr : s.classes[h.cls].isRegulated = true) (hf : h.forced = false)
    (hc : 1 ≤ s.classes[h.cls].credit) : s.creditMeans h = some .own := by
  simp [-Fin.getElem_fin, State.creditMeans, hr, hf, hc]

/-- Without own credit the one means left is the active lender, if it can lend. -/
theorem State.creditMeans_of_borrowing (hr : s.classes[h.cls].isRegulated = true) (hf : h.forced = false)
    (hc : s.classes[h.cls].credit ≤ 0) :
    s.creditMeans h
      = (s.classes[h.cls].active.lender.filter fun l => s.canLend l h.request).map Means.lent := by
  have hnone : ¬ 1 ≤ s.classes[h.cls].credit := by omega
  cases hl : s.classes[h.cls].active.lender with
  | none => simp [-Fin.getElem_fin, State.creditMeans, hr, hf, hnone, hl]
  | some l =>
    cases hlend : s.canLend l h.request <;>
      simp [-Fin.getElem_fin, State.creditMeans, hr, hf, hnone, hl, hlend]

/-! ## The obligation on the credit condition -/

/-- Settles O40: the class is not regulated, the request is forced, the class has own credit, or only its lender is
left; each case has its one equation, and the other means are excluded by what the case assumes. -/
theorem creditConditionMeans : Obligations.CreditConditionMeans := by
  intro s h r regulated
  have hreg (c : ClassId) : regulated c ↔ s.classes[c].isRegulated = true :=
    s.classes[c].isRegulated_iff.symm
  simp only [hreg]
  by_cases hr : s.classes[h.cls].isRegulated = true
  · cases hf : h.forced with
    | true => simp [-Fin.getElem_fin, s.creditMeans_of_forced h hr hf, hr]
    | false =>
      by_cases hc : r.credit ≤ 0
      · have hnone : ¬ 1 ≤ r.credit := by omega
        simp [-Fin.getElem_fin, s.creditMeans_of_borrowing h hr hf hc, s.canLend_iff, hr, hc, hnone, r]
      · have hown : 1 ≤ r.credit := by omega
        simp [-Fin.getElem_fin, s.creditMeans_of_own h hr hf hown, hr, hc, hown]
  · simp [-Fin.getElem_fin, s.creditMeans_of_not_regulated h hr, hr]

end Sys2Proof.Machine

namespace Sys2Proof.Tests

open Sys2Proof Sys2Proof.Machine

/-- Class 1 at a credit, borrowing from class 4 at a credit. -/
def lending (own lenders : Int) : State :=
  withClass 1 (running { split21 with lender := some 4 } own 0) (withClass 4 (running split21 lenders 0) State.reset)

/-- A request of 16 beats meets its credit condition by each means, and on each side of the bounds on the two credits:
one own credit is enough, and the lender's credit covers the whole length or does not lend. -/
theorem witness_CreditConditionMeans :
    (lending 0 16).creditMeans (fresh (readOf 9 16) 0) = some .free
      ∧ (lending 0 16).creditMeans { fresh (readOf 9 16) 1 with forced := true } = some .forced
      ∧ (lending 1 16).creditMeans (fresh (readOf 9 16) 1) = some .own
      ∧ (lending 0 16).creditMeans (fresh (readOf 9 16) 1) = some (.lent 4)
      ∧ (lending 0 15).creditMeans (fresh (readOf 9 16) 1) = none := by decide

end Sys2Proof.Tests
end

section
/-! SUPPORT. Classification of a request (R55 to R58): what each test of a map entry says, the first-match search over
the map, and the obligation on it. -/

namespace Sys2Proof.Machine

/-! ## The tests of a map entry -/

/-- Two words agree under a mask exactly when they agree in every bit that the mask selects. -/
theorem xor_and_eq_zero_iff {w : Nat} (x y mask : BitVec w) :
    (x ^^^ y) &&& mask = 0 ↔ ∀ b : Nat, mask.getLsbD b = true → x.getLsbD b = y.getLsbD b := by
  have hbit (b : Nat) : ((x ^^^ y) &&& mask).getLsbD b = false
      ↔ (mask.getLsbD b = true → x.getLsbD b = y.getLsbD b) := by
    rw [BitVec.getLsbD_and, BitVec.getLsbD_xor]
    cases x.getLsbD b <;> cases y.getLsbD b <;> simp
  simp only [← hbit]
  constructor
  · intro h b
    rw [h, BitVec.ofNat_eq_ofNat, BitVec.getLsbD_zero]
  · intro h
    refine BitVec.eq_of_getLsbD_eq fun b _ => ?_
    rw [h b, BitVec.ofNat_eq_ofNat, BitVec.getLsbD_zero]

/-- The range test on granules is the range test on bytes (R55). -/
theorem MapEntry.rangeTest_iff (e : MapEntry) (r : Request) :
    e.rangeTest r = true
      ↔ e.base.toNat * 4096 ≤ r.address.toNat ∧ r.address.toNat ≤ e.limit.toNat * 4096 + 4095 := by
  rw [MapEntry.rangeTest, Bool.and_eq_true, decide_eq_true_iff, decide_eq_true_iff, granule]
  omega

/-- The tag test (R56), bit by bit. -/
theorem MapEntry.tagTest_iff (e : MapEntry) (r : Request) :
    e.tagTest r = true ↔ ∀ b : Nat, e.tagMask.getLsbD b = true → r.tag.getLsbD b = e.tagMatch.getLsbD b := by
  rw [MapEntry.tagTest, beq_iff_eq, xor_and_eq_zero_iff]

/-- The kind test (R57). -/
theorem MapEntry.kindTest_iff (e : MapEntry) (r : Request) :
    e.kindTest r = true
      ↔ e.filter = .both ∨ (e.filter = .read ∧ r.kind = .read) ∨ (e.filter = .write ∧ r.kind = .write) := by
  unfold MapEntry.kindTest
  cases e.filter <;> simp

/-- A request matches a valid entry whose three tests pass (section 4.2). -/
theorem MapEntry.matches_iff (e : MapEntry) (r : Request) :
    e.matches r = true
      ↔ e.valid = true
        ∧ e.base.toNat * 4096 ≤ r.address.toNat ∧ r.address.toNat ≤ e.limit.toNat * 4096 + 4095
        ∧ (∀ b : Nat, e.tagMask.getLsbD b = true → r.tag.getLsbD b = e.tagMatch.getLsbD b)
        ∧ (e.filter = .both ∨ (e.filter = .read ∧ r.kind = .read) ∨ (e.filter = .write ∧ r.kind = .write)) := by
  rw [MapEntry.matches, Bool.and_eq_true, Bool.and_eq_true, Bool.and_eq_true, e.rangeTest_iff, e.tagTest_iff,
    e.kindTest_iff, and_assoc, and_assoc, and_assoc]

/-! ## The search over the map (R58) -/

/-- The entry at which the search stops gives the class. -/
theorem State.classify_of_first_match (s : State) (r : Request) (i : MapId)
    (hi : s.map[i].matches r = true) (hbefore : ∀ j : MapId, j < i → ¬ s.map[j].matches r = true) :
    s.classify r = s.map[i].cls := by
  have hfind : s.map.toList.find? (fun e => e.matches r) = some s.map[i] := by
    rw [List.find?_eq_some_iff_getElem]
    refine ⟨hi, i.val, by simp, by simp, fun j hj => ?_⟩
    simpa using hbefore ⟨j, by omega⟩ hj
  rw [State.classify, hfind]

/-- A search that finds nothing gives class 0. -/
theorem State.classify_of_no_match (s : State) (r : Request) (hnone : ∀ i : MapId, ¬ s.map[i].matches r = true) :
    s.classify r = 0 := by
  have hfind : s.map.toList.find? (fun e => e.matches r) = none := by
    rw [List.find?_eq_none]
    intro e he
    obtain ⟨i, hi, rfl⟩ := Vector.mem_iff_getElem.mp (Vector.mem_toList_iff.mp he)
    exact hnone ⟨i, hi⟩
  rw [State.classify, hfind]

/-! ## The obligation on classification -/

/-- Settles O34: the statement's four tests are the model's match, and the search stops at the first entry that
passes it. -/
theorem classificationByFirstMatch : Obligations.ClassificationByFirstMatch := by
  intro s r matchesEntry
  have hmatch (i : MapId) : matchesEntry i ↔ s.map[i].matches r = true := (s.map[i].matches_iff r).symm
  simp only [hmatch]
  exact ⟨s.classify_of_first_match r, s.classify_of_no_match r⟩

end Sys2Proof.Machine

namespace Sys2Proof.Tests

open Sys2Proof Sys2Proof.Machine

/-- Entry 0 of section 4.7: the logging DMA's writes, tags 16 to 31, into the log buffer. -/
def logEntry : MapEntry :=
  { valid := true, base := 0x80000, limit := 0x801FF, tagMatch := 16, tagMask := 48, filter := .write, cls := 6 }

/-- Entry 1 of section 4.7: the frame area, which contains the log buffer. -/
def frameEntry : MapEntry :=
  { valid := true, base := 0x80000, limit := 0x87FFF, tagMatch := 0, tagMask := 0, filter := .both, cls := 2 }

/-- Entry 3 of section 4.7: the packet DMA's tags, 32 to 63, anywhere in memory. -/
def packetEntry : MapEntry :=
  { valid := true, base := 0, limit := 0xFFFFFFF, tagMatch := 32, tagMask := 32, filter := .both, cls := 4 }

/-- The map of section 4.7; entry 2 and entries 4 to 15 are invalid. -/
def exampleMap : State :=
  { State.reset with map := ((State.reset.map.set 0 logEntry).set 1 frameEntry).set 3 packetEntry }

/-- Requests with the kinds, tags and addresses of section 4.7's a to f get the classes of its table. The second to
fifth fail the kind, range and tag tests, the third also matches the later entry 3, and the fifth matches none. -/
theorem classify_exampleMap :
    exampleMap.classify { oneBeatWrite 18 with address := 0x0080100000 } = 6
      ∧ exampleMap.classify { readOf 18 4 with address := 0x0080100000 } = 2
      ∧ exampleMap.classify { oneBeatWrite 40 with address := 0x0084000000 } = 2
      ∧ exampleMap.classify { readOf 40 2 with address := 0x0120000000 } = 4
      ∧ exampleMap.classify { readOf 5 1 with address := 0x0000040000 } = 0
      ∧ exampleMap.classify { oneBeatWrite 20 with address := 0x00801FFF80 } = 6 := by decide

end Sys2Proof.Tests
end

section
/-! SUPPORT. Acceptance into the Hold Pool (R71): the search for the lowest-numbered FREE slot, and the obligation on
REQUEST_ACCEPT. -/

namespace Sys2Proof.Machine

/-! ## The search for a FREE slot -/

/-- The search finds a slot exactly when the slot is FREE and every lower-numbered one is HELD. -/
theorem State.freeSlot_eq_some_iff (s : State) (k : SlotId) :
    s.freeSlot = some k ↔ s.slots[k] = none ∧ ∀ j : SlotId, j < k → s.slots[j] ≠ none := by
  unfold State.freeSlot
  rw [List.find?_eq_some_iff_getElem]
  constructor
  · rintro ⟨hfree, i, hi, rfl, hbefore⟩
    refine ⟨by simpa using hfree, fun j hj => ?_⟩
    simpa [-Fin.getElem_fin, Option.isSome_iff_ne_none] using hbefore j.val (by simpa [Fin.lt_def] using hj)
  · rintro ⟨hfree, hbefore⟩
    refine ⟨by simpa using hfree, k.val, by simp, by simp, fun j hj => ?_⟩
    simpa [Option.isSome_iff_ne_none] using hbefore ⟨j, by omega⟩ hj

/-! ## REQUEST_ACCEPT -/

/-- The I-side port is ready while RESET is negated and the search finds a FREE slot (R70). -/
theorem State.accept_of_freeSlot (s : State) (r : Request) (k : SlotId) (hr : s.resetAsserted = false)
    (hk : s.freeSlot = some k) : s.accept r = (s.acceptInto k r).judged := by
  have hready : s.iSideReady = true := by rw [State.iSideReady, hr, hk]; rfl
  rw [State.accept, if_pos hready, hk]

theorem exec_requestAccept (r : Request) (s : State) : exec (.requestAccept r) s = execRequestAccept r s := rfl

/-- A well-formed request is a packet, which the row takes. -/
theorem exec_requestAccept_of_wf (r : Request) (s : State) (hwf : r.wf = true) :
    exec (.requestAccept r) s = .next (s.accept r) := by
  rw [exec_requestAccept, execRequestAccept, if_pos hwf]

/-- Settles O36: the slot of the statement is the one that the search finds, and `State.acceptInto` makes the
statement's update of the state. -/
theorem acceptTakesTheLowestFreeSlot : Obligations.AcceptTakesTheLowestFreeSlot := by
  intro s r k hwf hr hfree hlower
  have hk : s.freeSlot = some k := (s.freeSlot_eq_some_iff k).mpr ⟨hfree, hlower⟩
  rw [exec_requestAccept_of_wf r s hwf, s.accept_of_freeSlot r k hr hk]
  rfl

end Sys2Proof.Machine
end

section
/-! SUPPORT. Eligibility of a held request (R74 to R80): what its order, fence and space conditions say, its derived
reason by the first condition that fails, and the obligation on them. -/

namespace Sys2Proof.Machine

variable (s : State) (k : SlotId) (h : HeldSlot)

/-! ## The conditions -/

/-- Two requests are of one chain when they have the same tag and kind (R75). -/
theorem sameChain_iff (a b : Request) : sameChain a b = true ↔ a.tag = b.tag ∧ a.kind = b.kind := by
  simp [sameChain]

/-- The order condition (R75): the requests ahead in the arrival order are of other chains. -/
theorem State.orderHolds_iff :
    s.orderHolds k h = true
      ↔ ∀ (j : SlotId) (g : HeldSlot), j ∈ s.olderThan k → s.slots[j] = some g →
          ¬ (g.request.tag = h.request.tag ∧ g.request.kind = h.request.kind) := by
  unfold State.orderHolds
  rw [List.all_eq_true]
  refine forall_congr' fun j => ?_
  cases s.slots[j] with
  | none => simp
  | some g =>
    simp only [Option.some.injEq, Bool.not_eq_true', ← Bool.not_eq_true, sameChain_iff]
    exact ⟨fun hall _ hj hg => hg ▸ hall hj, fun hall hj => hall g hj rfl⟩

/-- The fence condition (R76). -/
theorem State.fenceHolds_iff : s.fenceHolds h = true ↔ s.fences[h.cls].state = .unfenced := by
  rw [State.fenceHolds, beq_iff_eq]

/-- The space condition (R78). -/
theorem State.spaceHolds_iff : s.spaceHolds = true ↔ s.inFlight.length < 48 := by
  rw [State.spaceHolds, decide_eq_true_iff, inFlightCapacity]

/-! ## The derived reason, by the first condition that fails (R80) -/

theorem State.holdReason_of_not_order (ho : ¬ s.orderHolds k h = true) : s.holdReason k h = .order := by
  simp [State.holdReason, ho]

theorem State.holdReason_of_not_fence (ho : s.orderHolds k h = true) (hf : ¬ s.fenceHolds h = true) :
    s.holdReason k h = .fence := by
  simp [State.holdReason, ho, hf]

theorem State.holdReason_of_not_credit (ho : s.orderHolds k h = true) (hf : s.fenceHolds h = true)
    (hc : ¬ s.creditMeans h ≠ none) : s.holdReason k h = .credit := by
  simp [State.holdReason, ho, hf, not_not.mp hc]

theorem State.holdReason_of_not_space (ho : s.orderHolds k h = true) (hf : s.fenceHolds h = true)
    (hc : s.creditMeans h ≠ none) (hs : ¬ s.spaceHolds = true) : s.holdReason k h = .space := by
  simp [State.holdReason, ho, hf, hc, hs]

theorem State.holdReason_of_all (ho : s.orderHolds k h = true) (hf : s.fenceHolds h = true)
    (hc : s.creditMeans h ≠ none) (hs : s.spaceHolds = true) : s.holdReason k h = .ready := by
  simp [State.holdReason, ho, hf, hc, hs]

/-- A held request is eligible exactly when its derived reason is READY (R74, R80). -/
theorem State.eligible_iff (hk : s.slots[k] = some h) : s.eligible k = true ↔ s.holdReason k h = .ready := by
  rw [State.eligible, hk]
  exact beq_iff_eq

/-! ## The obligation on eligibility -/

/-- Settles O39: the first condition that fails is the order, the fence, the credit or the space condition, or all
hold; in each case the derived reason is known, and no other statement about it is true. -/
theorem eligibilityIsFourConditions : Obligations.EligibilityIsFourConditions := by
  intro s k h hk order fence credit space
  have horder : order ↔ s.orderHolds k h = true := (s.orderHolds_iff k h).symm
  have hfence : fence ↔ s.fenceHolds h = true := (s.fenceHolds_iff h).symm
  have hspace : space ↔ s.spaceHolds = true := s.spaceHolds_iff.symm
  rw [s.eligible_iff k h hk, horder, hfence, hspace]
  by_cases ho : s.orderHolds k h = true
  · by_cases hf : s.fenceHolds h = true
    · by_cases hc : credit
      · by_cases hs : s.spaceHolds = true
        · simp [s.holdReason_of_all k h ho hf hc hs, ho, hf, hc, hs]
        · simp [s.holdReason_of_not_space k h ho hf hc hs, ho, hf, hc, hs]
      · simp [s.holdReason_of_not_credit k h ho hf hc, ho, hf, hc]
    · simp [s.holdReason_of_not_fence k h ho hf, ho, hf]
  · simp [s.holdReason_of_not_order k h ho, ho]

end Sys2Proof.Machine

namespace Sys2Proof.Tests

open Sys2Proof Sys2Proof.Machine

/-- `issuing` with every entry of the In-Flight Table taken. -/
def tableFull : State := { issuing with inFlight := List.replicate 48 (readEntry 0 1 0) }

/-- Each reason is that of some held request: the first of `issuing`, a second of its tag and kind, and the first once
its class is fenced, without credit, or without space. One entry fewer in flight leaves space. -/
theorem witness_holdReason :
    issuing.holdReason 0 (fresh (readOf 9 16) 1) = .ready
      ∧ (withHeld 1 (fresh (readOf 9 2) 1) issuing).holdReason 1 (fresh (readOf 9 2) 1) = .order
      ∧ (withFence 1 { state := .fenced, timer := 0 } issuing).holdReason 0 (fresh (readOf 9 16) 1) = .fence
      ∧ (withClass 1 (running split21 0 0) issuing).holdReason 0 (fresh (readOf 9 16) 1) = .credit
      ∧ tableFull.holdReason 0 (fresh (readOf 9 16) 1) = .space
      ∧ ({ tableFull with inFlight := tableFull.inFlight.tail } : State).holdReason 0 (fresh (readOf 9 16) 1)
        = .ready := by decide

end Sys2Proof.Tests
end

section
/-! SUPPORT. The arbiter's choice (R93): what its two searches of the arrival order find, and the obligation on it. -/

namespace Sys2Proof.Machine

variable (s : State) (k : SlotId)

/-! ## A search of the eligible slots -/

/-- Slot `k` is slot `j`, or stands ahead of it in the arrival order (R68). -/
def State.notYounger (s : State) (k j : SlotId) : Prop := j = k ∨ k ∈ s.olderThan j

theorem State.mem_eligibleSlots (j : SlotId) : j ∈ s.eligibleSlots ↔ j ∈ s.arrival ∧ s.eligible j = true :=
  List.mem_filter

/-- A search of the eligible slots finds the oldest that meets its test. -/
theorem State.notYounger_of_find? {p : SlotId → Bool} (hk : s.eligibleSlots.find? p = some k) (j : SlotId)
    (hj : j ∈ s.eligibleSlots) (hp : p j = true) : s.notYounger k j := by
  obtain ⟨-, he⟩ := (s.mem_eligibleSlots j).mp hj
  rw [State.eligibleSlots, List.find?_filter] at hk
  obtain ⟨-, older, younger, horder, holder⟩ := List.find?_eq_some_iff_append.mp hk
  by_cases hjk : j = k
  · exact .inl hjk
  · have hahead : ∀ i ∈ older, (i != j) = true := fun i hi => by
      have hfails := holder i hi
      rw [bne_iff_ne]
      rintro rfl
      simp [he, hp] at hfails
    refine .inr ?_
    rw [State.olderThan, horder, List.takeWhile_append_of_pos hahead]
    simp [Ne.symm hjk]

/-! ## The two groups of the choice (R93) -/

/-- The forced group: a held request with its forced flag set, of a RUNNING class. -/
theorem State.inForcedGroup_iff :
    s.inForcedGroup k = true
      ↔ ∃ h : HeldSlot, s.slots[k] = some h ∧ h.forced = true ∧ s.classes[h.cls].run = .running := by
  unfold State.inForcedGroup ClassRecord.isRunning
  cases s.slots[k] <;> simp

/-- Where an eligible slot stands, one stands whose rank no other exceeds. -/
theorem State.exists_highest_rank (hne : s.eligibleSlots ≠ []) :
    ∃ k ∈ s.eligibleSlots, ∀ j ∈ s.eligibleSlots, s.rank j ≤ s.rank k := by
  have hsome : s.eligibleSlots.argmax s.rank ≠ none := mt List.argmax_eq_none.mp hne
  obtain ⟨k, hk⟩ := Option.ne_none_iff_exists'.mp hsome
  exact ⟨k, List.argmax_mem hk, fun j hj => List.le_of_mem_argmax hj hk⟩

/-- No choice is made exactly when no slot is eligible. -/
theorem State.choice_eq_none_iff : s.choice = none ↔ s.eligibleSlots = [] := by
  constructor
  · intro hnone
    by_contra hne
    obtain ⟨k, hk, hmax⟩ := s.exists_highest_rank hne
    unfold State.choice at hnone
    split at hnone
    · exact absurd hnone (Option.some_ne_none _)
    · exact List.find?_eq_none.mp hnone k hk (by simpa using hmax)
  · intro hnil
    simp [State.choice, hnil]

/-- A chosen slot is the oldest eligible one of the forced group, or that group holds no eligible slot and it is the
oldest of the highest rank. -/
theorem State.choice_cases (hk : s.choice = some k) :
    (s.inForcedGroup k = true ∧ ∀ j ∈ s.eligibleSlots, s.inForcedGroup j = true → s.notYounger k j)
      ∨ ((∀ j ∈ s.eligibleSlots, ¬ s.inForcedGroup j = true)
        ∧ ∀ j ∈ s.eligibleSlots, s.rank j ≤ s.rank k ∧ (s.rank j = s.rank k → s.notYounger k j)) := by
  unfold State.choice at hk
  split at hk
  next i hforced =>
    cases hk
    exact .inl ⟨List.find?_some hforced, s.notYounger_of_find? k hforced⟩
  next hnone =>
    have hmax : ∀ j ∈ s.eligibleSlots, s.rank j ≤ s.rank k := by simpa using List.find?_some hk
    refine .inr ⟨List.find?_eq_none.mp hnone, fun j hj => ⟨hmax j hj, fun hrank => ?_⟩⟩
    exact s.notYounger_of_find? k hk j hj (by simpa [hrank] using hmax)

/-! ## The obligation on the choice -/

/-- Settles O41: a choice by the first search is of the forced group, and the second search runs only where that group
holds no eligible slot. -/
theorem arbiterChoosesForcedThenPriorityThenAge : Obligations.ArbiterChoosesForcedThenPriorityThenAge := by
  intro s forced priority
  have hforced (k : SlotId) : forced k ↔ s.inForcedGroup k = true := (s.inForcedGroup_iff k).symm
  refine ⟨?_, fun k hk => ?_⟩
  · simp [s.choice_eq_none_iff, State.eligibleSlots]
  · obtain ⟨harrived, heligible⟩ := s.choice_eligible k hk
    refine ⟨harrived, heligible, ?_⟩
    have hmem (j : SlotId) (hj : j ∈ s.arrival) (he : s.eligible j = true) : j ∈ s.eligibleSlots :=
      (s.mem_eligibleSlots j).mpr ⟨hj, he⟩
    rcases s.choice_cases k hk with ⟨hin, holdest⟩ | ⟨hnone, hhighest⟩
    · have hforcedK : forced k := (hforced k).mpr hin
      exact ⟨fun j hj he hf => ⟨hforcedK, holdest j (hmem j hj he) ((hforced j).mp hf)⟩,
        fun hnot => absurd hforcedK hnot⟩
    · exact ⟨fun j hj he hf => absurd ((hforced j).mp hf) (hnone j (hmem j hj he)),
        fun _ j hj he => hhighest j (hmem j hj he)⟩

end Sys2Proof.Machine

namespace Sys2Proof.Tests

open Sys2Proof Sys2Proof.Machine

/-- A RUNNING class that is not regulated, of a priority. -/
def ranked (priority : BitVec 2) : ClassRecord := running { Descriptor.reset with priority := priority } 0 0

/-- Requests in the slots 5, 4, 3, oldest first: one of the lowest priority and two of a higher one, with the forced
flag of the first as given. -/
def ranks (forced : Bool) : State :=
  withHeld 3 (fresh (readOf 11 1) 2)
    (withHeld 4 (fresh (readOf 10 1) 2)
      (withHeld 5 { fresh (readOf 9 1) 1 with forced := forced }
        (withClass 1 (ranked 1) (withClass 2 (ranked 3) ready))))

/-- The forced request goes first, whatever its priority; without it the higher priority does, and of that the older
request; with the classes fenced none does. -/
theorem witness_choice :
    (ranks true).choice = some 5 ∧ (ranks false).choice = some 4
      ∧ ({ ranks true with fences := Vector.replicate 8 { state := .fenced, timer := 0 } } : State).choice
        = none := by decide

end Sys2Proof.Tests
end

section
/-! SUPPORT. The responses (R99 to R102, R104, R105, R117): what the oldest match of the In-Flight Table is, what a
response makes of it, and the obligations on WRITE_ACK and READ_DATA. -/

namespace Sys2Proof.Machine

/-! ## The entries that a response matches -/

/-- A WRITE_ACK matches a WRITE entry of its tag (R100). -/
theorem Entry.matchesWrite_iff (tag : Tag) (e : Entry) :
    e.matchesWrite tag = true ↔ e.flight = .write ∧ e.tag = tag := by
  unfold Entry.matchesWrite
  cases e.flight <;> simp

/-- A READ_DATA matches a READ entry of its tag (R101). -/
theorem Entry.matchesRead_iff (tag : Tag) (e : Entry) :
    e.matchesRead tag = true ↔ e.flight ≠ .write ∧ e.tag = tag := by
  unfold Entry.matchesRead
  cases e.flight <;> simp

/-! ## The oldest match -/

/-- Entry `e` is the oldest in the issue order that a test picks, with the entries before and after it. -/
structure State.OldestMatch (s : State) (p : Entry → Bool) (older : List Entry) (e : Entry) (younger : List Entry) :
    Prop where
  order : s.inFlight = older ++ e :: younger
  older_fail : ∀ x ∈ older, ¬ p x = true
  picked : p e = true

/-- A replacement in a list changes the first entry that it does not leave as it is. -/
theorem replaceF_append_cons_of_first {α : Type} {f : α → Option α} {a a' : α} (xs ys : List α)
    (hxs : ∀ x ∈ xs, f x = none) (ha : f a = some a') : (xs ++ a :: ys).replaceF f = xs ++ a' :: ys := by
  induction xs with
  | nil => exact List.replaceF_cons_of_some f ha
  | cons x xs ih =>
    obtain ⟨hx, hxs⟩ := List.forall_mem_cons.mp hxs
    rw [List.cons_append, List.replaceF_cons_of_none f hx, ih hxs, List.cons_append]

section
variable {s : State} {p : Entry → Bool} {older younger : List Entry} {e : Entry}

theorem State.OldestMatch.find?_eq (h : s.OldestMatch p older e younger) : s.inFlight.find? p = some e := by
  rw [List.find?_eq_some_iff_append]
  exact ⟨h.picked, older, younger, h.order, by simpa using h.older_fail⟩

/-- The oldest match is the one entry that a removal takes out. -/
theorem State.OldestMatch.dropEntry_eq (h : s.OldestMatch p older e younger) :
    s.dropEntry p = { s with inFlight := older ++ younger } := by
  rw [State.dropEntry, h.order, List.eraseP_append_right _ h.older_fail, List.eraseP_cons_of_pos h.picked]

/-- The oldest match is the one entry that a beat is counted against. -/
theorem State.OldestMatch.countBeat_eq (h : s.OldestMatch p older e younger) :
    s.countBeat p = { s with inFlight := older ++ e.oneMore :: younger } := by
  rw [State.countBeat, h.order, replaceF_append_cons_of_first (a' := e.oneMore) older younger]
  · exact fun x hx => if_neg (h.older_fail x hx)
  · exact if_pos h.picked

end

/-! ## What a matched response does beside its entry (R105, R107, R117) -/

/-- A FAULT is counted, up to the bound of its 24 bits, for a RUNNING class (R105). -/
theorem State.countFault_eq (s : State) (c : ClassId) (st : ReplyStatus) :
    s.countFault c st
      = { s with
          tallies :=
            if st = .fault ∧ s.classes[c].run = .running then
              s.tallies.set c
                { s.tallies[c] with
                  faults := BitVec.ofNat 24 (min (s.tallies[c].faults.toNat + 1) 16777215) }
            else s.tallies } := by
  have hrun : s.classes[c].isRunning = true ↔ s.classes[c].run = .running := beq_iff_eq
  unfold State.countFault
  by_cases h : st = .fault ∧ s.classes[c].run = .running
  · rw [if_pos h, if_pos (by rwa [hrun])]
    rfl
  · rw [if_neg h, if_neg (by rwa [hrun])]

/-- No entry of the class is left in flight, and its fence is DRAINING or STUCK (R117). -/
def State.drained (s : State) (c : ClassId) : Bool :=
  decide (∀ x ∈ s.inFlight, x.cls ≠ c) && (s.fences[c].state == .draining || s.fences[c].state == .stuck)

theorem State.drained_iff (s : State) (c : ClassId) :
    s.drained c = true
      ↔ s.hasEntry c = false ∧ (s.fences[c].state = .draining ∨ s.fences[c].state = .stuck) := by
  simp [State.drained, State.hasEntry]

/-- The drain report of a drained class ends its drain with FENCE_DONE (R117). -/
theorem State.drainReport_eq (s : State) (c : ClassId) :
    s.drainReport c
      = { s with
          fences := if s.drained c then s.fences.set c { s.fences[c] with state := .fenced } else s.fences
          sticky := { s.sticky with fenceDone := s.sticky.fenceDone || s.drained c } } := by
  rcases s.drainReport_cases c with ⟨hdrained, heq⟩ | ⟨hnot, heq⟩
  · rw [heq, (s.drained_iff c).mpr hdrained, Bool.or_true]
    rfl
  · rw [heq, Bool.eq_false_iff.mpr (mt (s.drained_iff c).mp hnot), Bool.or_false]
    rfl

/-- The M-side port takes a response while RESET is negated (R99). -/
theorem State.mSideReady_of (s : State) (hr : s.resetAsserted = false) : s.mSideReady = true := by
  rw [State.mSideReady, hr, Bool.not_false]

/-! ## WRITE_ACK -/

theorem exec_writeAck (tag : Tag) (st : ReplyStatus) (last : Bool) (s : State) :
    exec (.writeAck tag st last) s = execWriteAck tag st last s := rfl

theorem exec_writeAck_of (tag : Tag) (st : ReplyStatus) (last : Bool) (s : State) (hr : s.resetAsserted = false) :
    exec (.writeAck tag st last) s = .next ((s.pass (.writeAck tag st last)).matchWriteAck tag st).judged := by
  rw [exec_writeAck, execWriteAck, if_pos (s.mSideReady_of hr)]

/-- A WRITE_ACK with no match is stray (R104). -/
theorem State.matchWriteAck_of_none (s : State) (tag : Tag) (st : ReplyStatus)
    (h : ∀ e ∈ s.inFlight, ¬ (e.flight = .write ∧ e.tag = tag)) :
    s.matchWriteAck tag st = s.raise .strayResponse := by
  have hfind : s.inFlight.find? (Entry.matchesWrite tag) = none :=
    List.find?_eq_none.mpr fun e he => mt (e.matchesWrite_iff tag).mp (h e he)
  rw [State.matchWriteAck, hfind]

/-- The match of a WRITE_ACK leaves the table (R100). -/
theorem State.OldestMatch.matchWriteAck_eq {s : State} {tag : Tag} {older younger : List Entry} {e : Entry}
    (h : s.OldestMatch (Entry.matchesWrite tag) older e younger) (st : ReplyStatus) :
    s.matchWriteAck tag st
      = (({ s with inFlight := older ++ younger } : State).countFault e.cls st).drainReport e.cls := by
  rw [State.matchWriteAck, h.find?_eq, ← h.dropEntry_eq]

/-- Settles O45: the entry of the statement is the oldest match, and the count of a FAULT and the drain report make
the statement's update of the state. -/
theorem writeAckRemovesTheOldestMatch : Obligations.WriteAckRemovesTheOldestMatch := by
  intro s tag st last hr passed
  rw [exec_writeAck_of tag st last s hr]
  constructor
  · intro hnone
    rw [(s.pass (.writeAck tag st last)).matchWriteAck_of_none tag st hnone]
    rfl
  · intro older younger e horder holder hwrite htag drained
    have hmatch : (s.pass (.writeAck tag st last)).OldestMatch (Entry.matchesWrite tag) older e younger :=
      { order := horder
        older_fail := fun x hx => mt (x.matchesWrite_iff tag).mp (holder x hx)
        picked := (e.matchesWrite_iff tag).mpr ⟨hwrite, htag⟩ }
    have hsticky : (if drained then { s.sticky with fenceDone := true } else s.sticky)
        = { s.sticky with fenceDone := s.sticky.fenceDone || drained } := by
      cases drained <;> simp
    rw [hmatch.matchWriteAck_eq, State.drainReport_eq, State.countFault_eq, hsticky]
    rfl

/-! ## READ_DATA -/

theorem exec_readData (tag : Tag) (st : ReplyStatus) (beat : BitVec 128) (last : Bool) (s : State) :
    exec (.readData tag st beat last) s = execReadData tag st beat last s := rfl

theorem exec_readData_of (tag : Tag) (st : ReplyStatus) (beat : BitVec 128) (last : Bool) (s : State)
    (hr : s.resetAsserted = false) :
    exec (.readData tag st beat last) s
      = .next ((s.pass (.readData tag st beat last)).matchReadData tag st last).judged := by
  rw [exec_readData, execReadData, if_pos (s.mSideReady_of hr)]

/-- A READ_DATA with no match is stray (R104). -/
theorem State.matchReadData_of_none (s : State) (tag : Tag) (st : ReplyStatus) (last : Bool)
    (h : ∀ e ∈ s.inFlight, ¬ (e.flight ≠ .write ∧ e.tag = tag)) :
    s.matchReadData tag st last = s.raise .strayResponse := by
  have hfind : s.inFlight.find? (Entry.matchesRead tag) = none :=
    List.find?_eq_none.mpr fun e he => mt (e.matchesRead_iff tag).mp (h e he)
  rw [State.matchReadData, hfind]

section
variable {s : State} {tag : Tag} {older younger : List Entry} {e : Entry} {n c : Nat}

/-- A marked beat removes its match, with a shape error unless it is the last due (R101, R102). -/
theorem State.OldestMatch.lastBeat_eq (h : s.OldestMatch (Entry.matchesRead tag) older e younger)
    (hread : e.flight = .read n c) :
    s.lastBeat tag e
      = { s with
          inFlight := older ++ younger
          sticky := { s.sticky with shapeError := s.sticky.shapeError || c + 1 != n } } := by
  have hdue : e.lastDue = (c + 1 == n) := by rw [Entry.lastDue, hread]
  rw [State.lastBeat, h.dropEntry_eq, hdue, bne]
  cases c + 1 == n
  · rw [Bool.not_false, Bool.or_true]
    rfl
  · rw [Bool.not_true, Bool.or_false]
    rfl

/-- An unmarked beat is counted against its match up to the length, and is a shape error at the length (R101, R102).
-/
theorem State.OldestMatch.innerBeat_eq (h : s.OldestMatch (Entry.matchesRead tag) older e younger)
    (hread : e.flight = .read n c) :
    s.innerBeat tag e
      = { s with
          inFlight := if c < n then older ++ { e with flight := .read n (c + 1) } :: younger else s.inFlight
          sticky := { s.sticky with shapeError := s.sticky.shapeError || decide (n ≤ c) } } := by
  have hfull : e.full = decide (n ≤ c) := by rw [Entry.full, hread]
  have hmore : e.oneMore = { e with flight := .read n (c + 1) } := by rw [Entry.oneMore, hread]
  rw [State.innerBeat, hfull]
  by_cases hlt : c < n
  · rw [decide_eq_false (Nat.not_le.mpr hlt), if_pos hlt, h.countBeat_eq, hmore, Bool.or_false]
    rfl
  · rw [decide_eq_true (Nat.not_lt.mp hlt), if_neg hlt, Bool.or_true]
    rfl

theorem State.OldestMatch.matchReadData_marked (h : s.OldestMatch (Entry.matchesRead tag) older e younger)
    (st : ReplyStatus) :
    s.matchReadData tag st true = ((s.lastBeat tag e).countFault e.cls st).drainReport e.cls := by
  rw [State.matchReadData, h.find?_eq]
  rfl

theorem State.OldestMatch.matchReadData_unmarked (h : s.OldestMatch (Entry.matchesRead tag) older e younger)
    (st : ReplyStatus) : s.matchReadData tag st false = (s.innerBeat tag e).countFault e.cls st := by
  rw [State.matchReadData, h.find?_eq]
  rfl

end

/-- Settles O46: the entry of the statement is the oldest match; a marked beat removes it and reports the drain, an
unmarked one is counted or is an overrun, and the count of a FAULT is that of a WRITE_ACK. -/
theorem readDataCountsTheOldestMatch : Obligations.ReadDataCountsTheOldestMatch := by
  intro s tag st beat last hr passed
  rw [exec_readData_of tag st beat last s hr]
  constructor
  · intro hnone
    rw [(s.pass (.readData tag st beat last)).matchReadData_of_none tag st last hnone]
    rfl
  · intro older younger e n c horder holder hread htag shape drained
    have hmatch : (s.pass (.readData tag st beat last)).OldestMatch (Entry.matchesRead tag) older e younger :=
      { order := horder
        older_fail := fun x hx => mt (x.matchesRead_iff tag).mp (holder x hx)
        picked := (e.matchesRead_iff tag).mpr ⟨by simp [hread], htag⟩ }
    cases last with
    | true =>
      rw [hmatch.matchReadData_marked, hmatch.lastBeat_eq hread, State.drainReport_eq, State.countFault_eq]
      rfl
    | false =>
      have hdrained : drained = false := rfl
      rw [hmatch.matchReadData_unmarked, hmatch.innerBeat_eq hread, State.countFault_eq, hdrained, Bool.or_false]
      rfl

end Sys2Proof.Machine

namespace Sys2Proof.Tests

open Sys2Proof Sys2Proof.Machine

/-- Entries of one tag: a WRITE and a READ of RUNNING class 1, and a WRITE and a READ of STUCK class 2. -/
def sameTag : State :=
  withClass 1 (running split21 0 0)
    (withFence 2 { state := .stuck, timer := 5 }
      { State.reset with inFlight := [writeEntry 1, readEntry 1 1 1, writeEntry 2, readEntry 2 2 1] })

/-- With two matches the older leaves, and its class counts the FAULT; a second WRITE_ACK finds the other. -/
theorem witness_writeAck_oldest :
    after (exec (.writeAck 3 .fault false) sameTag)
        (fun t => t.inFlight == [readEntry 1 1 1, writeEntry 2, readEntry 2 2 1] && t.tallies[1].faults == 1
          && after (exec (.writeAck 3 .okay false) t)
            (fun u => u.inFlight == [readEntry 1 1 1, readEntry 2 2 1] && u.fences[2].state == .stuck)) = true := by
  decide

/-- With two matches an unmarked beat overruns the older, which is at its length; once that has left, the last
beat due of the other ends the drain of its STUCK class. -/
theorem witness_readData_oldest :
    after (exec (.readData 3 .okay 0 false) sameTag)
        (fun t => t.inFlight == sameTag.inFlight && t.sticky.shapeError) = true
      ∧ after (exec (.readData 3 .okay 0 true) { sameTag with inFlight := [writeEntry 1, readEntry 2 2 1] })
        (fun t => t.inFlight == [writeEntry 1] && !t.sticky.shapeError && t.sticky.fenceDone
          && t.fences[2].state == .fenced) = true := by
  decide

end Sys2Proof.Tests
end

section
/-! SUPPORT. FENCE (R115): what it makes of one class, the event it raises, and the obligation on it. -/

namespace Sys2Proof.Machine

/-! ## The effect on one class -/

/-- A class has an entry when some in-flight entry names it (R113). -/
theorem State.hasEntry_iff (s : State) (c : ClassId) : s.hasEntry c = true ↔ ∃ e ∈ s.inFlight, e.cls = c := by
  simp [State.hasEntry]

/-- A named UNFENCED class drains its entries, or is FENCED at once. -/
theorem State.fenced_of_unfenced (s : State) (c : ClassId) (h : s.fences[c].state = .unfenced) :
    s.fenced c = { state := if ∃ e ∈ s.inFlight, e.cls = c then .draining else .fenced, timer := 0 } := by
  simp only [State.fenced, h, State.hasEntry_iff]

/-- A named class that is not UNFENCED keeps its state and its drain timer. -/
theorem State.fenced_of_not_unfenced (s : State) (c : ClassId) (h : s.fences[c].state ≠ .unfenced) :
    s.fenced c = s.fences[c] := by
  unfold State.fenced
  cases hstate : s.fences[c].state with
  | unfenced => exact absurd hstate h
  | draining | fenced | stuck => rfl

/-- A named class is FENCED at once when it is UNFENCED with no entry (R115). -/
theorem State.fencesAtOnce_iff (s : State) (c : ClassId) :
    s.fencesAtOnce c = true ↔ s.fences[c].state = .unfenced ∧ ∀ e ∈ s.inFlight, e.cls ≠ c := by
  simp [State.fencesAtOnce, State.hasEntry]

/-! ## The effect of the command -/

/-- What FENCE makes of the fences, class by class. -/
def State.fencesAfterFence (s : State) (named : Bits) : Vector FenceRecord 8 :=
  tabulate fun c => if namedIn named c then s.fenced c else s.fences[c]

theorem State.fencesAfterFence_named (s : State) (named : Bits) (c : ClassId) (h : named.getD c.val false = true) :
    (s.fencesAfterFence named)[c] = s.fenced c :=
  (tabulate_get _ c).trans (if_pos h)

theorem State.fencesAfterFence_unnamed (s : State) (named : Bits) (c : ClassId)
    (h : named.getD c.val false = false) : (s.fencesAfterFence named)[c] = s.fences[c] :=
  (tabulate_get _ c).trans (if_neg (ne_true_of_eq_false h))

/-- FENCE writes the fences, and raises FENCE_DONE when it makes some class FENCED at once (R115, R124). -/
theorem State.fenceSet_eq (s : State) (named : Bits) :
    s.fenceSet named
      = { s with
          fences := s.fencesAfterFence named
          sticky :=
            if ∃ c : ClassId, named.getD c.val false = true ∧ s.fences[c].state = .unfenced
                ∧ ∀ e ∈ s.inFlight, e.cls ≠ c then
              { s.sticky with fenceDone := true }
            else s.sticky } := by
  have hany : ((List.finRange 8).any fun c => namedIn named c && s.fencesAtOnce c) = true
      ↔ ∃ c : ClassId, named.getD c.val false = true ∧ s.fences[c].state = .unfenced
          ∧ ∀ e ∈ s.inFlight, e.cls ≠ c := by
    simp only [List.any_eq_true, List.mem_finRange, true_and, Bool.and_eq_true, State.fencesAtOnce_iff]
    rfl
  unfold State.fenceSet
  split
  next h =>
    rw [if_pos (hany.mp h)]
    rfl
  next h =>
    rw [if_neg (mt hany.mpr h)]
    rfl

/-- A taken FENCE with a complete payload fences the classes it names, once the previous result is shifted out. -/
theorem exec_fence_whole (s : State) (o : BitVec 5) (r : Bits) (hr : s.resetAsserted = false)
    (hl : s.receiver = .ready) (hn : 8 ≤ r.length) :
    exec (.fence o r) s = .next (((s.shiftOut (12 + r.length)).fenceSet r).load .done []).judged := by
  have hexec : exec (.fence o r) s
      = .next (s.onPayload setLength r fun t => (t.fenceSet r).judged.answerDone) := rfl
  rw [hexec, s.onPayload_whole setLength r _ hr hl hn, State.answerDone, State.load_judged]

/-! ## The obligation on FENCE -/

/-- Settles O47: the fences are those of `State.fencesAfterFence`, where a named UNFENCED class has moved and every
other has stayed; the shifting out of the previous result reads neither fences nor entries. -/
theorem fenceSetsTheNamedClasses : Obligations.FenceSetsTheNamedClasses := by
  intro s o r hr hl hn
  refine ⟨s.fencesAfterFence r, fun c => ⟨fun hnamed hunfenced => ?_, fun hstays => ?_⟩, ?_⟩
  · rw [s.fencesAfterFence_named r c hnamed, s.fenced_of_unfenced c hunfenced]
  · cases hnamed : r.getD c.val false with
    | false => exact s.fencesAfterFence_unnamed r c hnamed
    | true =>
      have hfence : s.fences[c].state ≠ .unfenced := hstays.resolve_left (ne_false_of_eq_true hnamed)
      rw [s.fencesAfterFence_named r c hnamed, s.fenced_of_not_unfenced c hfence]
  · rw [exec_fence_whole s o r hr hl hn, State.fenceSet_eq]
    rfl

end Sys2Proof.Machine

namespace Sys2Proof.Tests

open Sys2Proof Sys2Proof.Machine

/-- An UNFENCED class 0 with a WRITE in flight, a STUCK class 2 with a READ in flight, every other class without one.
-/
def fencing : State :=
  withFence 2 { state := .stuck, timer := 5 } { State.reset with inFlight := [writeEntry 0, readEntry 2 4 1] }

/-- FENCE of the classes 0, 1 and 2: class 0 drains, class 1 is FENCED with FENCE_DONE, class 2 stays STUCK with its
drain timer, and class 3 is not named. Without class 1 no class becomes FENCED, and no event is raised. -/
theorem witness_fenceSet :
    after (exec (.fence 0 [true, true, true, false, false, false, false, false]) fencing)
        (fun t => t.fences[0] == { state := .draining, timer := 0 } && t.fences[1] == { state := .fenced, timer := 0 }
          && t.fences[2] == { state := .stuck, timer := 5 } && t.fences[3] == { state := .unfenced, timer := 0 }
          && t.sticky.fenceDone) = true
      ∧ after (exec (.fence 0 [true, false, true, false, false, false, false, false]) fencing)
        (fun t => t.fences[0].state == .draining && t.fences[1].state == .unfenced && !t.sticky.fenceDone)
        = true := by decide

end Sys2Proof.Tests
end

section
/-! SUPPORT. The write digest (R130, R131): one fold by the bit shifted out, the words of a write by beat, the bits of
a word by byte, and the obligation on them. -/

namespace Sys2Proof.Machine

/-! ## One fold -/

/-- A digest with bit 31 set is shifted, and takes the constant and the word (R131). -/
theorem foldDigest_of_bit (d w : Digest) (h : d.getLsbD 31 = true) :
    foldDigest d w = (d <<< 1 ^^^ foldConstant) ^^^ w := by
  have hmsb : d.msb = true := (BitVec.msb_eq_getLsbD_last d).trans h
  rw [foldDigest, if_pos hmsb]

/-- A digest with bit 31 clear is shifted, and takes the word alone (R131). -/
theorem foldDigest_of_not_bit (d w : Digest) (h : d.getLsbD 31 = false) : foldDigest d w = d <<< 1 ^^^ w := by
  have hmsb : ¬ d.msb = true := ne_true_of_eq_false ((BitVec.msb_eq_getLsbD_last d).trans h)
  rw [foldDigest, if_neg hmsb]

/-! ## The words of a write -/

/-- The four words of a beat, in the order of their folding (R130). -/
def beatWords (b : Beat) : List Digest := [beatWord b 0, beatWord b 1, beatWord b 2, beatWord b 3]

theorem foldWords_eq (r : Request) :
    foldWords r = r.address.extractLsb' 0 32 :: r.data.flatMap beatWords := rfl

theorem beatWords_getD (b : Beat) (k : Fin 4) (rest : List Digest) :
    (beatWords b ++ rest).getD k.val 0 = beatWord b k.val := by
  match k with
  | 0 | 1 | 2 | 3 => rfl

theorem flatMap_beatWords_length (bs : List Beat) : (bs.flatMap beatWords).length = 4 * bs.length := by
  induction bs with
  | nil => rfl
  | cons b bs ih =>
    rw [List.flatMap_cons, List.length_append, ih, List.length_cons, beatWords]
    simp only [List.length_cons, List.length_nil]
    omega

/-- Each beat before beat `i` puts four words ahead of its own. -/
theorem flatMap_beatWords_getD (bs : List Beat) (i : Nat) (b : Beat) (k : Fin 4) (h : bs[i]? = some b) :
    (bs.flatMap beatWords).getD (4 * i + k.val) 0 = beatWord b k.val := by
  induction bs generalizing i with
  | nil => simp at h
  | cons a bs ih =>
    rw [List.flatMap_cons]
    cases i with
    | zero =>
      obtain rfl : a = b := by simpa using h
      rw [Nat.mul_zero, Nat.zero_add, beatWords_getD]
    | succ i =>
      have hnext : 4 * (i + 1) + k.val = (4 * i + k.val) + (beatWords a).length := by
        simp only [beatWords, List.length_cons, List.length_nil]
        omega
      rw [hnext, List.getD_append_right _ _ _ _ (Nat.le_add_left _ _), Nat.add_sub_cancel]
      exact ih i h

/-! ## The bits of a word -/

/-- A bit of a byte is the beat's bit where the byte is enabled, and otherwise zero (R130). -/
theorem beatByte_getLsbD (b : Beat) (i j : Nat) (hj : j < 8) :
    (beatByte b i).getLsbD j = (b.enables.getLsbD i && b.bytes.getLsbD (8 * i + j)) := by
  unfold beatByte
  split
  next h => simp [h, hj]
  next h => simp [h]

/-- Past the byte at the low end, the bits are those of the part above it. -/
theorem append_byte_getLsbD_add {n : Nat} (x : BitVec n) (y : BitVec 8) (i : Nat) :
    (x ++ y).getLsbD (8 + i) = x.getLsbD i := by
  rw [BitVec.getLsbD_append, if_neg (Nat.not_lt.mpr (Nat.le_add_right 8 i)), Nat.add_sub_cancel_left]

/-- Of four bytes put together, byte 0 is the least significant. -/
theorem fourBytes_getLsbD (byte : Fin 4 → BitVec 8) (m : Fin 4) (j : Nat) (hj : j < 8) :
    (byte 3 ++ byte 2 ++ byte 1 ++ byte 0).getLsbD (8 * m.val + j) = (byte m).getLsbD j := by
  match m with
  | 0 =>
    have hplace : 8 * (0 : Fin 4).val + j = j := Nat.zero_add j
    rw [hplace, BitVec.getLsbD_append, if_pos hj]
  | 1 =>
    have hplace : 8 * (1 : Fin 4).val + j = 8 + j := rfl
    rw [hplace, append_byte_getLsbD_add, BitVec.getLsbD_append, if_pos hj]
  | 2 =>
    have hplace : 8 * (2 : Fin 4).val + j = 8 + (8 + j) := Nat.add_assoc 8 8 j
    rw [hplace, append_byte_getLsbD_add, append_byte_getLsbD_add, BitVec.getLsbD_append, if_pos hj]
  | 3 =>
    have hplace : 8 * (3 : Fin 4).val + j = 8 + (8 + (8 + j)) :=
      (Nat.add_assoc 16 8 j).trans (Nat.add_assoc 8 8 (8 + j))
    rw [hplace, append_byte_getLsbD_add, append_byte_getLsbD_add, append_byte_getLsbD_add]

/-- Byte `m` of word `k` is byte `4k + m` of the beat (R130). -/
theorem beatWord_getLsbD (b : Beat) (k : Nat) (m : Fin 4) (j : Nat) (hj : j < 8) :
    (beatWord b k).getLsbD (8 * m.val + j) = (beatByte b (4 * k + m.val)).getLsbD j :=
  fourBytes_getLsbD (fun i => beatByte b (4 * k + i.val)) m j hj

/-! ## The obligation on the digest -/

/-- Settles O44: the two outcomes of a fold; the address word, with the words of beat `i` after the four of each beat
before it; and bit `j` of a word as bit `j % 8` of its byte `j / 8`. -/
theorem digestFoldsAddressAndEnabledBytes : Obligations.DigestFoldsAddressAndEnabledBytes := by
  refine ⟨fun d w => ⟨foldDigest_of_bit d w, foldDigest_of_not_bit d w⟩, fun r => ⟨?_, ?_, ?_⟩, fun b k j => ?_⟩
  · rw [foldWords_eq, List.length_cons, flatMap_beatWords_length, Nat.add_comm]
  · rw [foldWords_eq, List.getD_cons_zero]
    rfl
  · intro i b k hb
    rw [foldWords_eq, Nat.add_assoc, Nat.add_comm 1, List.getD_cons_succ, flatMap_beatWords_getD r.data i b k hb]
  · have hbyte : j.val / 8 < 4 := by omega
    have hbit : j.val % 8 < 8 := Nat.mod_lt _ (by decide)
    have hplace : 8 * (4 * k.val + j.val / 8) + j.val % 8 = 32 * k.val + j.val := by omega
    calc (beatWord b k.val).getLsbD j.val
        = (beatWord b k.val).getLsbD (8 * (j.val / 8) + j.val % 8) := by rw [Nat.div_add_mod]
      _ = (beatByte b (4 * k.val + j.val / 8)).getLsbD (j.val % 8) :=
          beatWord_getLsbD b k.val ⟨j.val / 8, hbyte⟩ _ hbit
      _ = _ := by rw [beatByte_getLsbD b _ _ hbit, hplace]

end Sys2Proof.Machine

namespace Sys2Proof.Tests

open Sys2Proof Sys2Proof.Machine

/-- The first folds of the worked example of chapter 8: a fold with bit 31 clear, then two with it set. -/
theorem witness_foldDigest :
    foldDigest 0 0x80000040 = 0x80000040 ∧ foldDigest 0x80000040 0 = 0x8F6E3721
      ∧ foldDigest 0x8F6E3721 0x44002211 = 0xD5B27BF2 :=
  ⟨foldDigest_of_not_bit 0 0x80000040 rfl, foldDigest_of_bit 0x80000040 0 rfl,
    foldDigest_of_bit 0x8F6E3721 0x44002211 rfl⟩

/-- Word 1 of beat 0 of the same example stands third; bit 16 of it belongs to byte 6, whose data has that bit set
and whose enable is clear, and bit 0 to byte 4, which is enabled. -/
theorem witness_foldWords_disabled :
    digestWrite.data[0]?.map (fun b => (b.bytes.getLsbD 48, b.enables.getLsbD 6)) = some (true, false)
      ∧ digestWrite.data[0]?.map (fun b => (b.bytes.getLsbD 32, b.enables.getLsbD 4)) = some (true, true)
      ∧ ((foldWords digestWrite).getD 2 0).getLsbD 16 = false
      ∧ ((foldWords digestWrite).getD 2 0).getLsbD 0 = true := by decide

end Sys2Proof.Tests
end

section
/-! SUPPORT. The Report Queue (R146, R147, R150): the arithmetic of serials and gaps, the admission or the drop of a
record, the retirement of the oldest by its serial, and the two obligations on them. -/

namespace Sys2Proof.Machine

/-! ## Serials and gaps -/

/-- A saturating count raised by one: its upper bound stays, and any other count rises. -/
theorem satAdd_one {w : Nat} (x : BitVec w) : satAdd x 1 = if x.toNat = 2 ^ w - 1 then x else x + 1 := by
  have hlt := x.isLt
  apply BitVec.eq_of_toNat_eq
  rw [satAdd_toNat]
  split
  next hfull => omega
  next hroom =>
    have hone : (1 : BitVec w).toNat = 1 := (BitVec.toNat_ofNat 1 w).trans (Nat.mod_eq_of_lt (by omega))
    rw [BitVec.toNat_add_of_lt (by omega), hone]
    omega

/-- The serial after a serial is one more modulo 65536 (R145). -/
theorem serial_succ (x : BitVec 16) : x + 1 = BitVec.ofNat 16 ((x.toNat + 1) % 65536) := by
  apply BitVec.eq_of_toNat_eq
  simp [BitVec.toNat_add]

/-- A record carries a gap field exactly when the pending gap is not 0 (R143). -/
theorem gapField_eq (gap : BitVec 16) :
    (if gap = 0 then none else some gap) = if gap.toNat = 0 then none else some gap :=
  if_congr BitVec.toNat_inj.symm rfl rfl

/-! ## A hand-over -/

/-- A queue with room admits the record at its young end (R146). -/
theorem State.handOver_admitted (s : State) (p : PeriodFacts) (h : s.records.length < queueCapacity) :
    s.handOver p
      = { s with
          records := s.records ++
            [{ facts := p, serial := s.nextSerial, gap := if s.pendingGap = 0 then none else some s.pendingGap }]
          nextSerial := s.nextSerial + 1
          pendingGap := 0 } :=
  if_pos h

/-- A full queue drops the record: the pending gap counts it, and RECORD_DROPPED is raised (R147). -/
theorem State.handOver_dropped (s : State) (p : PeriodFacts) (h : queueCapacity ≤ s.records.length) :
    s.handOver p
      = { s with
          pendingGap := satAdd s.pendingGap 1
          sticky := { s.sticky with recordDropped := true } } :=
  if_neg (Nat.not_lt.mpr h)

/-- Settles O23: the two outcomes of a hand-over, with the wrap of the serial, the test for a gap and the saturation
of the pending gap written out. -/
theorem recordAdmittedOrDropped : Obligations.RecordAdmittedOrDropped := by
  intro s p
  constructor
  · intro hroom
    rw [s.handOver_admitted p hroom, serial_succ, gapField_eq]
  · intro hfull
    rw [s.handOver_dropped p hfull, satAdd_one]
    rfl

/-! ## A retirement -/

/-- An empty queue has nothing to retire. -/
theorem State.retire_of_empty (s : State) (serial : BitVec 16) (h : s.records = []) :
    s.retire serial = s.load .queueEmpty [] := by
  simp only [State.retire, h]

/-- The oldest record leaves when its serial is the one given. -/
theorem State.retire_of_match (s : State) (p : PeriodRecord) (younger : List PeriodRecord)
    (h : s.records = p :: younger) :
    s.retire p.serial = { s.load .done [] with records := younger } := by
  simp only [State.retire, h, if_pos]
  rfl

/-- The oldest record stays when its serial is not the one given. -/
theorem State.retire_of_mismatch (s : State) (serial : BitVec 16) (p : PeriodRecord) (younger : List PeriodRecord)
    (h : s.records = p :: younger) (hne : p.serial ≠ serial) : s.retire serial = s.load .mismatch [] := by
  simp only [State.retire, h, if_neg hne]

theorem exec_retireRecord (o : BitVec 5) (r : Bits) (s : State) :
    exec (.retireRecord o r) s = .next (s.onPayload serialLength r (State.retire (bitField r 0 16))) := rfl

/-- A taken RETIRE RECORD with a complete payload retires by the serial in its first 16 bits, once the previous result
is shifted out. -/
theorem exec_retireRecord_whole (s : State) (o : BitVec 5) (r : Bits) (hr : s.resetAsserted = false)
    (hl : s.receiver = .ready) (hn : 16 ≤ r.length) :
    exec (.retireRecord o r) s = .next ((s.shiftOut (12 + r.length)).retire (bitField r 0 16)) := by
  rw [exec_retireRecord, s.onPayload_whole serialLength r _ hr hl hn]

/-- Settles O25: the payload is complete or not, the queue is empty or not, and the oldest serial is the one given or
not; the shifting out of the previous result leaves the records. -/
theorem retireRecordBySerial : Obligations.RetireRecordBySerial := by
  intro s o r hr hl
  have hshift : (s.shiftOut (12 + r.length)).records = s.records := s.shiftOut_records _
  refine ⟨fun hshort => ?_, fun hn hempty => ?_, fun p younger hn holdest => ⟨fun hserial => ?_, fun hserial => ?_⟩⟩
  · rw [exec_retireRecord, s.onPayload_short serialLength r _ hr hl hshort]
    rfl
  · rw [exec_retireRecord_whole s o r hr hl hn, State.retire_of_empty _ _ (hshift.trans hempty), State.load_shiftOut]
  · rw [exec_retireRecord_whole s o r hr hl hn, ← hserial, State.retire_of_match _ p younger (hshift.trans holdest),
      State.load_shiftOut]
  · rw [exec_retireRecord_whole s o r hr hl hn,
      State.retire_of_mismatch _ _ p younger (hshift.trans holdest) hserial, State.load_shiftOut]

end Sys2Proof.Machine

namespace Sys2Proof.Tests

open Sys2Proof Sys2Proof.Machine

/-- A queue of `n` records at the last serial before the wrap, with a pending gap. -/
def queued (n : Nat) (gap : BitVec 16) : State :=
  { State.reset with records := List.replicate n (emptyRecord 0), nextSerial := 65535, pendingGap := gap }

/-- The 64th record takes serial 65535 and the gap, and the next serial wraps to 0; the 65th is dropped and counted,
and a gap at 65535 stays there. -/
theorem witness_handOver :
    let admitted : State := (queued 63 2).handOver (emptyRecord 0).facts
    let dropped : State := (queued 64 2).handOver (emptyRecord 0).facts
    let saturated : State := (queued 64 65535).handOver (emptyRecord 0).facts
    admitted.records.getLast? = some { emptyRecord 65535 with gap := some 2 }
      ∧ admitted.records.length = 64 ∧ admitted.nextSerial = 0 ∧ admitted.pendingGap = 0
      ∧ admitted.sticky.recordDropped = false
      ∧ dropped.records.length = 64 ∧ dropped.nextSerial = 65535 ∧ dropped.pendingGap = 3
      ∧ dropped.sticky.recordDropped = true ∧ saturated.pendingGap = 65535 := by decide

/-- 15 payload bits are refused with SHORT and LINK_ERROR, and an empty queue answers QUEUE_EMPTY. -/
theorem witness_retireRecord_refused :
    after (exec (.retireRecord 0 (zeros 15)) (queued 1 2))
        (fun t => t.holder.status == .short && t.sticky.linkError && t.records.length == 1) = true
      ∧ after (exec (.retireRecord 0 (zeros 16)) (queued 0 2))
        (fun t => t.holder.status == .queueEmpty && t.nextSerial == 65535 && t.pendingGap == 2) = true := by
  decide

end Sys2Proof.Tests
end

section
/-! SUPPORT. The frames that reach no block but the Service Link (R158, R159, R161–R163, R171): which terms are
frames of a row that has a condition, what a taken frame of each row leaves, and the obligation on them. -/

namespace Sys2Proof.Machine

/-! ## The terms of the rows (R159, R162, R163) -/

/-- The command codes that the table of R187 assigns. -/
def assignedCodes : List Nat :=
  [0x00, 0x01, 0x02, 0x03, 0x08, 0x09, 0x0A, 0x0C, 0x0D, 0x0E, 0x0F, 0x10, 0x11, 0x18, 0x20, 0x21, 0x28, 0x29, 0x3C]

/-- One case per row of the table, and the codes that no row has. -/
theorem commandOf_eq_none_iff (c : BitVec 6) (o : BitVec 5) (r : Bits) :
    commandOf c o r = none ↔ c.toNat ∉ assignedCodes := by
  unfold commandOf
  split <;> simp_all [assignedCodes]

theorem shortHeaderFrame_wf_iff (b : Bits) :
    (Instr.shortHeaderFrame b).wf = true ↔ 1 ≤ b.length ∧ b.length ≤ 11 := by
  simp [Instr.wf, headerLength, Nat.lt_succ_iff]

theorem parityErrorFrame_wf_iff (h : BitVec 12) (r : Bits) :
    (Instr.parityErrorFrame h r).wf = true ↔ oddOnes (wordBits h) = false ∧ h ≠ BitVec.allOnes 12 := by
  simp [Instr.wf]

theorem unknownCommand_wf_iff (c : BitVec 6) (o : BitVec 5) (r : Bits) :
    (Instr.unknownCommand c o r).wf = true ↔ c.toNat ∉ assignedCodes := by
  simp [Instr.wf, codeAssigned, commandOf_eq_none_iff]

/-! ## The frames that answer only -/

/-- A taken frame whose outcome is to load the holder does what every answered frame does, and nothing else. -/
theorem State.onCommand_load (s : State) (r : Bits) (st : Status) (d : Bits) (hr : s.resetAsserted = false)
    (hl : s.receiver = .ready) : s.onCommand r (State.load st d) = s.answered (12 + r.length) st d := by
  rw [s.onCommand_taken r _ hr hl, State.load_shiftOut]

theorem exec_zeroBitFrame (s : State) : exec .zeroBitFrame s = .next s := rfl

theorem exec_noOperation (o : BitVec 5) (r : Bits) (s : State) :
    exec (.noOperation o r) s = .next (s.onCommand r (State.load .done [])) := rfl

theorem exec_linkReset (r : Bits) (s : State) :
    exec (.linkReset r) s = .next (s.onCommand r (State.load .empty [])) := rfl

theorem exec_unknownCommand_of_wf (c : BitVec 6) (o : BitVec 5) (r : Bits) (s : State)
    (hwf : (Instr.unknownCommand c o r).wf = true) :
    exec (.unknownCommand c o r) s = .next (s.onCommand r (State.load .unknown [])) :=
  if_pos hwf

/-! ## The frames that raise LINK_ERROR too -/

/-- The refusal SHORT after the shift: the answer, and LINK_ERROR (R159). -/
theorem State.refuseShort_shiftOut (s : State) (n : Nat) :
    (s.shiftOut n).refuseShort
      = { s.answered n .short [] with sticky := { s.sticky with linkError := true } } := rfl

/-- The refusal PARITY after the shift: the answer, and LINK_ERROR (R162). -/
theorem State.refuseParity_shiftOut (s : State) (n : Nat) :
    (s.shiftOut n).refuseParity
      = { s.answered n .parity [] with sticky := { s.sticky with linkError := true } } := rfl

theorem exec_parityErrorFrame_of_wf (h : BitVec 12) (r : Bits) (s : State)
    (hwf : (Instr.parityErrorFrame h r).wf = true) :
    exec (.parityErrorFrame h r) s = .next (s.onCommand r State.refuseParity) :=
  if_pos hwf

theorem exec_shortHeaderFrame_of_wf (b : Bits) (s : State) (hwf : (Instr.shortHeaderFrame b).wf = true) :
    exec (.shortHeaderFrame b) s = .next (s.onFrame b.length State.refuseShort) :=
  if_pos hwf

/-! ## The obligation on the frames of the link -/

/-- Settles O5, row by row: a frame of no bits is ignored, three rows load the holder once the previous result is
shifted out, and two raise LINK_ERROR too; the statement's conditions say which terms are frames of their row. -/
theorem linkFramesReachOnlyTheLink : Obligations.LinkFramesReachOnlyTheLink := by
  intro s hr hl
  refine ⟨exec_zeroBitFrame s, fun o r => ?noOperation, fun r => ?linkReset, fun c o r hc => ?unknownCommand,
    fun h r heven hones => ?parityErrorFrame, fun b hpos hshort => ?shortHeaderFrame⟩
  case noOperation => rw [exec_noOperation, s.onCommand_load r _ _ hr hl]
  case linkReset => rw [exec_linkReset, s.onCommand_load r _ _ hr hl]
  case unknownCommand =>
    have hwf : (Instr.unknownCommand c o r).wf = true := (unknownCommand_wf_iff c o r).2 hc
    rw [exec_unknownCommand_of_wf c o r s hwf, s.onCommand_load r _ _ hr hl]
  case parityErrorFrame =>
    have hwf : (Instr.parityErrorFrame h r).wf = true := (parityErrorFrame_wf_iff h r).2 ⟨heven, hones⟩
    rw [exec_parityErrorFrame_of_wf h r s hwf, s.onCommand_taken r _ hr hl, State.refuseParity_shiftOut]
  case shortHeaderFrame =>
    have hwf : (Instr.shortHeaderFrame b).wf = true := (shortHeaderFrame_wf_iff b).2 ⟨hpos, hshort⟩
    rw [exec_shortHeaderFrame_of_wf b s hwf, s.onFrame_taken _ _ hr hl, State.refuseShort_shiftOut]

end Sys2Proof.Machine
end

section
/-! SUPPORT. The device controls and the alerts (R181–R183): the range test of SET DEVICE CONTROLS, what CLEAR ALERTS
leaves of the sticky events, when ALERT is asserted, and the three obligations on them. -/

namespace Sys2Proof.Machine

/-! ## SET DEVICE CONTROLS (R183) -/

theorem exec_setDeviceControls (o : BitVec 5) (r : Bits) (s : State) :
    exec (.setDeviceControls o r) s = execSetDeviceControls o r s := rfl

/-- The divisor and the threshold of a controls payload are in range (R183). -/
def controlsInRange (bs : Bits) : Prop :=
  16 ≤ (bitField bs 0 16).toNat ∧ 1 ≤ (bitField bs 32 7).toNat ∧ (bitField bs 32 7).toNat ≤ 64

/-- The four settings that a payload in range spells (R188). -/
def controlsOf (bs : Bits) : Controls :=
  { divisor := bitField bs 0 16
    drainLimit := bitField bs 16 16
    threshold := bitField bs 32 7
    mask := parseEventSet bs 39 }

theorem parseControls_of_inRange (bs : Bits) (h : controlsInRange bs) : parseControls bs = some (controlsOf bs) :=
  if_pos h

theorem parseControls_of_not_inRange (bs : Bits) (h : ¬ controlsInRange bs) : parseControls bs = none :=
  if_neg h

/-- A complete payload in range replaces the settings and is answered with DONE. -/
theorem exec_setDeviceControls_inRange (s : State) (o : BitVec 5) (r : Bits) (hr : s.resetAsserted = false)
    (hl : s.receiver = .ready) (hn : 47 ≤ r.length) (hrange : controlsInRange r) :
    exec (.setDeviceControls o r) s = .next ((s.shiftOut (12 + r.length)).setControls (controlsOf r)).answerDone := by
  rw [exec_setDeviceControls, execSetDeviceControls, s.onPayload_whole controlsLength r _ hr hl hn,
    parseControls_of_inRange r hrange]

/-- A complete payload out of range is refused with RANGE. -/
theorem exec_setDeviceControls_not_inRange (s : State) (o : BitVec 5) (r : Bits) (hr : s.resetAsserted = false)
    (hl : s.receiver = .ready) (hn : 47 ≤ r.length) (hrange : ¬ controlsInRange r) :
    exec (.setDeviceControls o r) s = .next (s.answered (12 + r.length) .range []) := by
  rw [exec_setDeviceControls, execSetDeviceControls, s.onPayload_whole controlsLength r _ hr hl hn,
    parseControls_of_not_inRange r hrange]
  rfl

/-- Settles O14: a complete payload is in range or not, and its settings are those that the statement reads. -/
theorem setDeviceControlsReplacesAll : Obligations.SetDeviceControlsReplacesAll := by
  intro s o r hr hl hn
  by_cases hrange : controlsInRange r
  · rw [exec_setDeviceControls_inRange s o r hr hl hn hrange]
    exact (if_pos hrange).symm
  · rw [exec_setDeviceControls_not_inRange s o r hr hl hn hrange]
    exact (if_neg hrange).symm

/-! ## CLEAR ALERTS (R181) -/

theorem exec_clearAlerts (o : BitVec 5) (r : Bits) (s : State) :
    exec (.clearAlerts o r) s
      = .next (s.onPayload setLength r fun t =>
          { t with sticky := t.sticky.without (parseEventSet r 0) }.answerDone) := rfl

/-- Settles O15: the payload is complete or not, and the event set it spells names the events in member order. -/
theorem clearAlertsClearsTheNamed : Obligations.ClearAlertsClearsTheNamed := by
  intro s o r hr hl
  refine ⟨fun hshort => ?_, fun hwhole => ?_⟩
  · rw [exec_clearAlerts, s.onPayload_short setLength r _ hr hl hshort, State.refuseShort_shiftOut]
  · rw [exec_clearAlerts, s.onPayload_whole setLength r _ hr hl hwhole]
    rfl

/-! ## The ALERT output (R182) -/

/-- An event set is not the empty one exactly when it has one of the eight members. -/
theorem EventSet.ne_none_iff (e : EventSet) :
    e ≠ .none
      ↔ e.recordLevel = true ∨ e.recordDropped = true ∨ e.fenceDone = true ∨ e.fenceStuck = true
        ∨ e.forcedRelease = true ∨ e.strayResponse = true ∨ e.shapeError = true ∨ e.linkError = true := by
  cases e
  simp only [EventSet.none, ne_eq, EventSet.mk.injEq, not_and_or, Bool.not_eq_false]

/-- ALERT is asserted exactly outside reset while the active and the enabled events have a member in common. -/
theorem State.alert_iff (s : State) :
    s.alert = true ↔ s.resetAsserted = false ∧ s.eventStates.inter s.enableMask ≠ .none := by
  simp only [State.alert, Bool.and_eq_true, Bool.not_eq_true', bne_iff_ne]

/-- RESET holds ALERT negated. -/
theorem State.alert_of_reset (s : State) (h : s.resetAsserted = true) : s.alert = false := by
  simp [State.alert, h]

theorem State.recordLevel_iff (s : State) : s.recordLevel = true ↔ s.threshold.toNat ≤ s.records.length :=
  decide_eq_true_iff

theorem exec_hardReset (s : State) : exec .hardReset s = .next s.hardReset := rfl

/-- Settles O17: ALERT looks for a member of the active events that is enabled too, and the state of a hard reset has
RESET asserted. -/
theorem alertFollowsEnabledEvents : Obligations.AlertFollowsEnabledEvents := by
  intro s
  refine ⟨?asserted, s.hardReset, exec_hardReset s, rfl, rfl, s.hardReset.alert_of_reset rfl⟩
  rw [State.alert_iff, EventSet.ne_none_iff]
  simp only [EventSet.inter, State.eventStates, Bool.and_eq_true, State.recordLevel_iff]

end Sys2Proof.Machine

namespace Sys2Proof.Tests

open Sys2Proof Sys2Proof.Machine

/-- FENCE_DONE and RECORD_LEVEL enabled, with `n` records against the threshold 48. -/
def alerting (n : Nat) : State :=
  { queued n 0 with enableMask := { EventSet.none with fenceDone := true, recordLevel := true } }

/-- ALERT needs an event that is both active and enabled: a level, a sticky event, an event not enabled, and none
in reset. -/
theorem witness_alert :
    (alerting 48).alert = true ∧ (alerting 47).alert = false
      ∧ ({ alerting 0 with sticky := { StickyEvents.clear with fenceDone := true } } : State).alert = true
      ∧ ({ alerting 0 with sticky := { StickyEvents.clear with linkError := true } } : State).alert = false
      ∧ ({ alerting 48 with resetAsserted := true } : State).alert = false := by decide

/-- 7 payload bits are refused with SHORT and clear nothing, and naming RECORD_LEVEL alone clears nothing. -/
theorem witness_clearAlerts_unnamed :
    after (exec (.clearAlerts 0 (List.replicate 7 true))
          { State.reset with sticky := { StickyEvents.clear with fenceDone := true } })
        (fun t => t.holder.status == .short && t.sticky.fenceDone && t.sticky.linkError) = true
      ∧ after (exec (.clearAlerts 0 (true :: zeros 7))
          { alerting 48 with sticky := { StickyEvents.clear with fenceDone := true } })
        (fun t => t.holder.status == .done && t.sticky.fenceDone && t.recordLevel && t.alert) = true := by
  decide

end Sys2Proof.Tests
end

section
/-! SUPPORT. What a command or event is made of: the single acts of the twelve blocks (`Move`), each with what the
machine has made sure of before it, and the proof that every command, event and REFCLK period is a series of them.
A law that every act keeps is then kept by every step (`exec_keeps`, `step_keeps`). -/

namespace Sys2Proof.Machine

/-! ## The acts -/

/-- One act of one block while command or event `i` is executed. The hypotheses on `i` say which rows the act can
belong to; the others say what holds when the block acts. -/
inductive Move (i : Instr) : State → State → Prop
  | judge (s : State) : Move i s { s with slots := s.judged.slots }
  | answer (s : State) (st : Status) (d : Bits) (h : st = .done ∨ d = []) : Move i s (s.load st d)
  | raise (s : State) (e : StickyEvent) : Move i s (s.raise e)
  | clear (s : State) (named : EventSet) (hi : ∃ (o : BitVec 5) (r : Bits), i = .clearAlerts o r) :
      Move i s { s with sticky := s.sticky.without named }
  | controls (s : State) (c : Controls)
      (h : 16 ≤ c.divisor.toNat ∧ 1 ≤ c.threshold.toNat ∧ c.threshold.toNat ≤ 64) : Move i s (s.setControls c)
  | stage (s : State) (c : ClassId) (d : Descriptor) (h : ¬ s.lendingRefuses c d = true) :
      Move i s (s.updateClass c (ClassRecord.stage d))
  | start (s : State) (c : ClassId) (h : s.classes[c].run = .idle) : Move i s (s.updateClass c ClassRecord.start)
  | stop (s : State) (c : ClassId) (h : s.classes[c].run = .running) : Move i s (s.updateClass c ClassRecord.stop)
  | renew (s : State) (c : ClassId) (h : s.classes[c].run = .running) : Move i s (s.updateClass c ClassRecord.renew)
  | countTick (s : State) (c : ClassId) (hr : s.classes[c].isRegulated = true)
      (hc : s.classes[c].counter + 1 ≠ s.classes[c].active.period) :
      Move i s
        (s.updateClass c fun r =>
          { r with
            counter := r.counter + 1
            credit := if r.active.halfGrantAt (r.counter + 1) then r.credit + r.active.halfGrant else r.credit })
  | account (s : State) (tallies : Vector Tally 8) (digests : Vector Digest 8) :
      Move i s { s with tallies := tallies, digests := digests }
  | handOver (s : State) (p : PeriodFacts) :
      Move i s
        { s with
          records := (s.handOver p).records
          nextSerial := (s.handOver p).nextSerial
          pendingGap := (s.handOver p).pendingGap
          sticky := (s.handOver p).sticky }
  | retire (s : State) (p : PeriodRecord) (younger : List PeriodRecord) (h : s.records = p :: younger) :
      Move i s { s with records := younger }
  | writeEntry (s : State) (j : MapId) (e : MapEntry) (h : e.base.toNat ≤ e.limit.toNat) :
      Move i s { s with map := s.map.set j e }
  | fence (s : State) (named : Bits) : Move i s { s with fences := s.fencesAfterFence named }
  | unfence (s : State) (named : Bits) : Move i s (s.unfenceSet named)
  | clearRegulation (s : State) : Move i s s.clearRegulation
  | accept (s : State) (k : SlotId) (r : Request) (hr : r.wf = true) (hk : s.slots[k] = none)
      (hi : frameBits i = none) : Move i s (s.acceptInto k r)
  | pass (s : State) (r : Response) (hi : frameBits i = none) : Move i s (s.pass r)
  | leave (s : State) (p : Entry → Bool) (e : Entry) (h : s.inFlight.find? p = some e) (hi : frameBits i = none) :
      Move i s
        { s with
          inFlight := s.inFlight.eraseP p
          fences :=
            if (s.dropEntry p).drained e.cls then s.fences.set e.cls { s.fences[e.cls] with state := .fenced }
            else s.fences
          sticky := { s.sticky with fenceDone := s.sticky.fenceDone || (s.dropEntry p).drained e.cls } }
  | beat (s : State) (p : Entry → Bool) (e : Entry) (h : s.inFlight.find? p = some e) (hf : e.full = false)
      (hi : frameBits i = none) : Move i s (s.countBeat p)
  | tickPool (s : State) (hi : frameBits i = none) :
      Move i s { s with slots := tabulate fun k => (s.slots[k]).map s.tickHeld }
  | tickFences (s : State) :
      Move i s { s with fences := tabulate fun c => (s.fences[c]).tick s.drainLimit }
  | owe (s : State) (l : List TickTaker)
      (h : l.Sublist s.owedTicks ∨ l.Nodup ∧ s.count = 0 ∧ s.freeze = false) : Move i s { s with owedTicks := l }
  | setCount (s : State) (n : Nat)
      (h : n = 0 ∨ n < s.divisor.toNat ∧ s.owedTicks = [] ∧ s.freeze = false) : Move i s { s with count := n }
  | setFreeze (s : State) (b : Bool) (h : b = true → s.owedTicks = []) : Move i s { s with freeze := b, count := 0 }
  | setReady (s : State) (b : Bool) (hi : frameBits i = none) : Move i s { s with controllerReady := b }
  | setReceiver (s : State) (r : Receiver) : Move i s { s with receiver := r }
  | release (s : State) : Move i s { s with resetAsserted := false }
  | setRefclkTicks (s : State) (n : Nat) : Move i s { s with refclkTicks := n }
  | issue (s : State) (k : SlotId) (h : HeldSlot) (m : Means) (hk : s.slots[k] = some h)
      (hf : s.fenceHolds h = true) (hm : s.creditMeans h = some m) (hs : s.spaceHolds = true)
      (hi : ∃ b : Bool, i = .issue b) :
      Move i s
        { s.sendOut k h with
          classes := (s.charge h m).classes
          tallies := (s.issueSlot k h m).tallies
          digests := (s.issueSlot k h m).digests }
  | hardReset (s : State) (hi : i = .hardReset) : Move i s s.hardReset

/-- A series of acts of `i`. -/
abbrev Moves (i : Instr) : State → State → Prop := Relation.ReflTransGen (Move i)

/-- What every act keeps, a series of acts keeps. -/
theorem Moves.keeps {i : Instr} {P : State → Prop} (hP : ∀ s t : State, Move i s t → P s → P t) {s t : State}
    (h : Moves i s t) (hs : P s) : P t := by
  induction h with
  | refl => exact hs
  | tail _ hm ih => exact hP _ _ hm ih

/-! ## The shared operations as series of acts -/

section
variable {i : Instr} (s : State)

theorem moves_judged : Moves i s s.judged := by
  have h : Moves i s { s with slots := s.judged.slots } := .single (.judge s)
  rwa [← State.judged_frame] at h

theorem moves_handOver (p : PeriodFacts) : Moves i s (s.handOver p) := by
  have h : Moves i s _ := .single (.handOver s p)
  rwa [← State.handOver_frame] at h

theorem moves_report (c : ClassId) (cause : Cause) : Moves i s (s.report c cause) := by
  rcases s.report_cases c cause with ⟨-, h⟩ | ⟨-, h⟩ <;> rw [h]
  exact moves_handOver s _

theorem moves_startPeriod (c : ClassId) : Moves i s (s.startPeriod c) := .single (.account s _ _)

theorem moves_renewPeriod (c : ClassId) (cause : Cause) (h : s.classes[c].run = .running) :
    Moves i s (s.renewPeriod c cause) := by
  refine (moves_report s c cause).trans (.trans (.single (.renew _ c ?_)) (moves_startPeriod _ c))
  rwa [State.report_classes]

theorem moves_refuseShort : Moves i s s.refuseShort :=
  .tail (.single (.raise s _)) (.answer _ _ _ (.inr rfl))

theorem moves_refuseParity : Moves i s s.refuseParity :=
  .tail (.single (.raise s _)) (.answer _ _ _ (.inr rfl))

/-- An answer without data. -/
theorem moves_load_nil (st : Status) : Moves i s (s.load st []) := .single (.answer s st [] (.inr rfl))

/-- An answer with data. -/
theorem moves_load_done (d : Bits) : Moves i s (s.load .done d) := .single (.answer s .done d (.inl rfl))

theorem moves_refuseRange : Moves i s s.refuseRange := moves_load_nil s _

theorem moves_answerDone : Moves i s s.answerDone := moves_load_nil s _

/-- A judgement, then the answer DONE. -/
theorem moves_judged_answerDone : Moves i s s.judged.answerDone := (moves_judged s).trans (moves_answerDone _)

/-- A command on a class acts on a named class, or refuses. -/
theorem moves_onClass (o : BitVec 5) (f : ClassId → State → State) (h : ∀ c : ClassId, Moves i s (f c s)) :
    Moves i s (s.onClass o f) := by
  unfold State.onClass
  split
  · exact moves_refuseRange s
  · exact h _

/-- A command on a map entry acts on a named entry, or refuses. -/
theorem moves_onEntry (o : BitVec 5) (f : MapId → State → State) (h : ∀ j : MapId, Moves i s (f j s)) :
    Moves i s (s.onEntry o f) := by
  unfold State.onEntry
  split
  · exact moves_refuseRange s
  · exact h _

/-! ### The outcomes of the frames -/

theorem moves_stageOn (d : Descriptor) (c : ClassId) : Moves i s (s.stageOn d c) := by
  unfold State.stageOn
  split
  next => exact moves_load_nil s _
  next h => exact .trans (.single (.stage s c d h)) (moves_judged_answerDone _)

theorem moves_startOn (c : ClassId) : Moves i s (s.startOn c) := by
  unfold State.startOn
  split
  next => exact moves_load_nil s _
  next h =>
    exact .trans (.single (.start s c h)) ((moves_startPeriod _ c).trans (moves_judged_answerDone _))

theorem moves_stopOn (c : ClassId) : Moves i s (s.stopOn c) := by
  unfold State.stopOn
  split
  next => exact moves_load_nil s _
  next h =>
    refine (moves_report s c .stop).trans (.trans (.single (.stop _ c ?_)) (moves_judged_answerDone _))
    rwa [State.report_classes]

theorem moves_restartOn (c : ClassId) : Moves i s (s.restartOn c) := by
  unfold State.restartOn
  split
  next => exact moves_load_nil s _
  next h => exact (moves_renewPeriod s c _ h).trans (moves_judged_answerDone _)

theorem moves_fenceSet (named : Bits) : Moves i s (s.fenceSet named) := by
  have hf : Moves i s { s with fences := s.fencesAfterFence named } := .single (.fence s named)
  unfold State.fenceSet
  split
  · exact hf.tail (.raise _ .fenceDone)
  · exact hf

theorem moves_retire (serial : BitVec 16) : Moves i s (s.retire serial) := by
  unfold State.retire
  split
  next => exact moves_load_nil s _
  next p younger h =>
    split
    · exact .trans (.single (.retire s p younger h)) (moves_answerDone _)
    · exact moves_load_nil s _

theorem moves_readRecord :
    Moves i s
      (match s.records with
      | [] => s.load .queueEmpty []
      | p :: _ => s.load .done p.bits) := by
  split
  · exact moves_load_nil s _
  · exact moves_load_done s _

/-- Settings that are read from a payload are in range. -/
theorem parseControls_inRange {r : Bits} {c : Controls} (h : parseControls r = some c) :
    16 ≤ c.divisor.toNat ∧ 1 ≤ c.threshold.toNat ∧ c.threshold.toNat ≤ 64 := by
  by_cases hr : controlsInRange r
  · rw [parseControls_of_inRange r hr] at h
    cases h
    exact hr
  · rw [parseControls_of_not_inRange r hr] at h
    cases h

theorem moves_setDeviceControls (r : Bits) :
    Moves i s
      (match parseControls r with
      | none => s.refuseRange
      | some c => (s.setControls c).answerDone) := by
  split
  next => exact moves_refuseRange s
  next c h => exact .trans (.single (.controls s c (parseControls_inRange h))) (moves_answerDone _)

theorem moves_stageDescriptor (o : BitVec 5) (r : Bits) :
    Moves i s
      (match parseDescriptor r with
      | none => s.refuseRange
      | some d => s.onClass o (State.stageOn d)) := by
  split
  · exact moves_refuseRange s
  · exact moves_onClass s o _ (moves_stageOn s _)

/-- An entry that is read from a payload has a well-formed range (R60). -/
theorem parseMapEntry_range {r : Bits} {e : MapEntry} (h : parseMapEntry r = some e) :
    e.base.toNat ≤ e.limit.toNat := by
  unfold parseMapEntry at h
  split at h
  · dsimp only at h
    split at h
    next hle =>
      cases h
      exact hle
    next => cases h
  · cases h

theorem moves_writeMapEntry (o : BitVec 5) (r : Bits) :
    Moves i s
      (match parseMapEntry r with
      | none => s.refuseRange
      | some e => s.onEntry o (State.writeEntry e)) := by
  split
  next => exact moves_refuseRange s
  next e h =>
    exact moves_onEntry s o _ fun j =>
      .trans (.single (.writeEntry s j e (parseMapEntry_range h))) (moves_answerDone _)

/-! ### The takers of a tick -/

/-- A taker of a tick touches neither the count, nor the pins, nor what is owed. -/
theorem State.takeTick_frame (t : TickTaker) :
    s.takeTick t
      = { s with
          classes := (s.takeTick t).classes
          slots := (s.takeTick t).slots
          fences := (s.takeTick t).fences
          digests := (s.takeTick t).digests
          tallies := (s.takeTick t).tallies
          records := (s.takeTick t).records
          nextSerial := (s.takeTick t).nextSerial
          pendingGap := (s.takeTick t).pendingGap
          sticky := (s.takeTick t).sticky } := by
  cases t with
  | record c =>
    simp only [State.takeTick]
    rw [State.tickRecord_eq, State.handOvers_frame]
  | pool =>
    simp only [State.takeTick]
    rw [State.tickPool_eq]
  | fenceMonitor =>
    simp only [State.takeTick]
    rw [State.tickFences_eq]

@[simp] theorem State.takeTick_count (t : TickTaker) : (s.takeTick t).count = s.count := by
  rw [s.takeTick_frame t]
@[simp] theorem State.takeTick_freeze (t : TickTaker) : (s.takeTick t).freeze = s.freeze := by
  rw [s.takeTick_frame t]
@[simp] theorem State.takeTick_divisor (t : TickTaker) : (s.takeTick t).divisor = s.divisor := by
  rw [s.takeTick_frame t]

theorem moves_takeTick (hi : frameBits i = none) (t : TickTaker) : Moves i s (s.takeTick t) := by
  cases t with
  | record c =>
    rcases s.tickRecord_cases c with ⟨-, h⟩ | ⟨hr, -, h⟩ | ⟨hr, hc, h⟩ <;> simp only [State.takeTick, h]
    · rfl
    · exact moves_renewPeriod s c _ ((ClassRecord.isRegulated_iff _).mp hr).1
    · exact .single (.countTick s c hr hc)
  | pool =>
    have hp : Moves i s _ := .single (.tickPool s hi)
    simp only [State.takeTick, State.tickPool]
    split
    · exact hp.tail (.raise _ .forcedRelease)
    · exact hp
  | fenceMonitor =>
    have hf : Moves i s _ := .single (.tickFences s)
    simp only [State.takeTick, State.tickFences]
    split
    · exact hf.tail (.raise _ .fenceStuck)
    · exact hf

theorem moves_foldl_takeTick (hi : frameBits i = none) (l : List TickTaker) :
    Moves i s (l.foldl State.takeTick s) :=
  State.foldl_takeTick_induct (fun u t h => h.trans (moves_takeTick u hi t)) l s .refl

/-- The takers of a tick leave the count, the FREEZE input and the divisor. -/
theorem State.foldl_takeTick_time (l : List TickTaker) :
    (l.foldl State.takeTick s).count = s.count ∧ (l.foldl State.takeTick s).freeze = s.freeze
      ∧ (l.foldl State.takeTick s).divisor = s.divisor :=
  State.foldl_takeTick_induct (P := fun u => u.count = s.count ∧ u.freeze = s.freeze ∧ u.divisor = s.divisor)
    (fun u t h => by simpa using h) l s ⟨rfl, rfl, rfl⟩

theorem moves_settleTicks (hi : frameBits i = none) : Moves i s s.settleTicks := by
  unfold State.settleTicks
  split
  · rfl
  · exact (moves_foldl_takeTick s hi _).trans
      (.trans (.single (.owe _ [] (.inl (List.nil_sublist _)))) (moves_judged _))

/-- A settlement leaves the count, the FREEZE input and the divisor. -/
theorem State.settleTicks_time :
    s.settleTicks.count = s.count ∧ s.settleTicks.freeze = s.freeze ∧ s.settleTicks.divisor = s.divisor := by
  unfold State.settleTicks
  split
  · exact ⟨rfl, rfl, rfl⟩
  · simpa using s.foldl_takeTick_time s.owedTicks

theorem moves_makeTick (hi : frameBits i = none) (order later : List TickTaker) (hf : s.freeze = false) :
    Moves i s (s.makeTick order later) := by
  obtain ⟨-, hsettled, -⟩ := s.settleTicks_time
  let start : State := { s.settleTicks with count := 0 }
  have hstart : Moves i s start := (moves_settleTicks s hi).tail (.setCount _ 0 (.inl rfl))
  obtain ⟨hcount, hfreeze, -⟩ :=
    start.foldl_takeTick_time ((tickSequence order).filter fun t => t ∉ later)
  refine hstart.trans ((moves_foldl_takeTick start hi _).trans (.trans (.single (.owe _ _ (.inr ?_)))
    (moves_judged _)))
  exact ⟨(nodup_tickSequence order).filter _, hcount, by rw [hfreeze]; exact hsettled.trans hf⟩

theorem moves_takeOwed (hi : frameBits i = none) (t : TickTaker) : Moves i s (s.takeOwed t) := by
  have howed : (s.takeTick t).owedTicks = s.owedTicks := by rw [s.takeTick_frame t]
  refine (moves_takeTick s hi t).trans (.trans (.single (.owe _ _ (.inl ?_))) (moves_judged _))
  rw [howed]
  exact List.filter_sublist

/-! ### Responses -/

theorem moves_countFault (c : ClassId) (st : ReplyStatus) : Moves i s (s.countFault c st) := by
  have h : Moves i s _ := .single (.account s (s.countFault c st).tallies s.digests)
  rw [State.countFault_frame]
  exact h

theorem moves_dropEntry_drainReport (hi : frameBits i = none) (p : Entry → Bool) (e : Entry)
    (h : s.inFlight.find? p = some e) : Moves i s ((s.dropEntry p).drainReport e.cls) := by
  have hm : Moves i s _ := .single (.leave s p e h hi)
  rw [State.drainReport_eq]
  exact hm

/-- The removal of an entry and the count of a FAULT commute. -/
theorem State.countFault_dropEntry (p : Entry → Bool) (c : ClassId) (st : ReplyStatus) :
    (s.dropEntry p).countFault c st = (s.countFault c st).dropEntry p := by
  rw [State.countFault_eq, State.countFault_eq]
  rfl

/-- The match leaves with the count of a FAULT and the drain report. -/
theorem moves_matched_leaves (hi : frameBits i = none) (p : Entry → Bool) (e : Entry)
    (h : s.inFlight.find? p = some e) (st : ReplyStatus) :
    Moves i s (((s.dropEntry p).countFault e.cls st).drainReport e.cls) := by
  rw [State.countFault_dropEntry]
  refine (moves_countFault s e.cls st).trans (moves_dropEntry_drainReport _ hi p e ?_)
  rw [State.countFault_frame]
  exact h

theorem moves_matchWriteAck (hi : frameBits i = none) (tag : Tag) (st : ReplyStatus) :
    Moves i s (s.matchWriteAck tag st) := by
  unfold State.matchWriteAck
  split
  next => exact .single (.raise s _)
  next e h => exact moves_matched_leaves s hi _ e h st

theorem moves_innerBeat (hi : frameBits i = none) (tag : Tag) (e : Entry)
    (h : s.inFlight.find? (Entry.matchesRead tag) = some e) : Moves i s (s.innerBeat tag e) := by
  unfold State.innerBeat
  split
  next => exact .single (.raise s _)
  next hf => exact .single (.beat s _ e h (by simpa using hf) hi)

theorem moves_matchReadData (hi : frameBits i = none) (tag : Tag) (st : ReplyStatus) (last : Bool) :
    Moves i s (s.matchReadData tag st last) := by
  unfold State.matchReadData
  split
  next => exact .single (.raise s _)
  next e h =>
    split
    · unfold State.lastBeat
      dsimp only
      split
      · exact moves_matched_leaves s hi _ e h st
      · exact .trans (.single (.raise s .shapeError)) (moves_matched_leaves (s.raise .shapeError) hi _ e h st)
    · exact (moves_innerBeat s hi tag e h).trans (moves_countFault _ _ _)

/-! ### Acceptance and issue -/

theorem moves_accept (hi : frameBits i = none) (r : Request) (hr : r.wf = true) : Moves i s (s.accept r) := by
  unfold State.accept
  split
  · split
    next k hk =>
      exact .trans (.single (.accept s k r hr ((s.freeSlot_eq_some_iff k).mp hk).1 hi)) (moves_judged _)
    next => rfl
  · rfl

end

theorem moves_issue (s : State) (b : Bool) : Moves (.issue b) s (s.issue b) := by
  rcases s.issue_cases b with ⟨-, h⟩ | ⟨hm, -, h⟩ | ⟨hm, k, g, m, -, hk, he, hcm, h⟩ <;> rw [h]
  · exact .single (.setReady s _ rfl)
  · rw [← s.judged_of hm]
    exact (moves_judged s).tail (.setReady _ b rfl)
  · obtain ⟨g', -, hg, -, hf, -, hs⟩ := s.eligible_held k he
    obtain rfl : g = g' := Option.some.inj (hk.symm.trans hg)
    have hissue : Move (.issue b) s.judge _ :=
      .issue _ k g m (s.judge_slot_of_eligible k g hk he) hf hcm hs ⟨b, rfl⟩
    rw [← State.issueSlot_frame] at hissue
    refine .trans ?_ (.trans (.single hissue) (.trans (.single (.setReady _ b rfl)) (moves_judged _)))
    rw [← s.judged_of hm]
    exact moves_judged s

/-! ## Frames -/

/-- What a row that is a frame of `bits` does: once the link takes the frame, the previous result is shifted out, and
then a series of acts of the row follows. -/
def IsFrameOf (i : Instr) (bits : Bits) : Prop :=
  ∃ f : State → State,
    (∀ s : State, exec i s = .next (s.onFrame bits.length f)) ∧ ∀ u : State, Moves i u (f u)

theorem headerBits_length (code : BitVec 6) (operand : BitVec 5) : (headerBits code operand).length = 12 := by
  simp [headerBits]

/-- The frame of a command, by its outcome. -/
theorem isFrameOf_command {i : Instr} {code : BitVec 6} {o : BitVec 5} {r bits : Bits} (f : State → State)
    (hcode : frameBits i = commandBits code o r) (hb : frameBits i = some bits)
    (he : ∀ s : State, exec i s = .next (s.onCommand r f)) (hm : ∀ u : State, Moves i u (f u)) :
    IsFrameOf i bits := by
  obtain rfl : headerBits code o ++ r = bits := Option.some.inj (hcode.symm.trans hb)
  refine ⟨f, fun s => ?_, hm⟩
  rw [he, List.length_append, headerBits_length, State.onCommand, headerLength]

/-- The frame of a command with a payload, by its outcome once the payload is complete. -/
theorem isFrameOf_payload {i : Instr} {code : BitVec 6} {o : BitVec 5} {r bits : Bits} (need : Nat)
    (f : State → State) (hcode : frameBits i = commandBits code o r) (hb : frameBits i = some bits)
    (he : ∀ s : State, exec i s = .next (s.onPayload need r f)) (hm : ∀ u : State, Moves i u (f u)) :
    IsFrameOf i bits := by
  refine isFrameOf_command (fun u => if r.length < need then u.refuseShort else f u) hcode hb he fun u => ?_
  split
  · exact moves_refuseShort u
  · exact hm u

/-- Every well-formed row that is a frame, but the frame of no bits, acts once the link has taken it. -/
theorem isFrameOf_of_frameBits {i : Instr} {bits : Bits} (hwf : i.wf = true) (hb : frameBits i = some bits)
    (hne : i ≠ .zeroBitFrame) : IsFrameOf i bits := by
  cases i with
  | noOperation o r => exact isFrameOf_command _ rfl hb (fun _ => rfl) moves_answerDone
  | readDeviceStatus o r => exact isFrameOf_command _ rfl hb (fun _ => rfl) fun u => moves_load_done u _
  | setDeviceControls o r =>
    exact isFrameOf_payload _ _ rfl hb (fun _ => rfl) fun u => moves_setDeviceControls u r
  | clearAlerts o r =>
    exact isFrameOf_payload _ _ rfl hb (fun _ => rfl) fun u =>
      .trans (.single (.clear u (parseEventSet r 0) ⟨o, r, rfl⟩)) (moves_answerDone _)
  | stageDescriptor o r =>
    exact isFrameOf_payload _ _ rfl hb (fun _ => rfl) fun u => moves_stageDescriptor u o r
  | readActiveDescriptor o r =>
    exact isFrameOf_command _ rfl hb (fun _ => rfl) fun u => moves_onClass u o _ fun _ => moves_load_done u _
  | readStagedDescriptor o r =>
    exact isFrameOf_command _ rfl hb (fun _ => rfl) fun u => moves_onClass u o _ fun _ => moves_load_done u _
  | startClass o r =>
    exact isFrameOf_command _ rfl hb (fun _ => rfl) fun u => moves_onClass u o _ (moves_startOn u)
  | stopClass o r =>
    exact isFrameOf_command _ rfl hb (fun _ => rfl) fun u => moves_onClass u o _ (moves_stopOn u)
  | restartClass o r =>
    exact isFrameOf_command _ rfl hb (fun _ => rfl) fun u => moves_onClass u o _ (moves_restartOn u)
  | readClassStatus o r =>
    exact isFrameOf_command _ rfl hb (fun _ => rfl) fun u => moves_onClass u o _ fun _ => moves_load_done u _
  | writeMapEntry o r =>
    exact isFrameOf_payload _ _ rfl hb (fun _ => rfl) fun u => moves_writeMapEntry u o r
  | readMapEntry o r =>
    exact isFrameOf_command _ rfl hb (fun _ => rfl) fun u => moves_onEntry u o _ fun _ => moves_load_done u _
  | readSlot o r => exact isFrameOf_command _ rfl hb (fun _ => rfl) fun u => moves_load_done u _
  | fence o r =>
    exact isFrameOf_payload _ _ rfl hb (fun _ => rfl) fun u => (moves_fenceSet u r).trans (moves_judged_answerDone _)
  | unfence o r =>
    exact isFrameOf_payload _ _ rfl hb (fun _ => rfl) fun u =>
      .trans (.single (.unfence u r)) (moves_judged_answerDone _)
  | readRecord o r => exact isFrameOf_command _ rfl hb (fun _ => rfl) moves_readRecord
  | retireRecord o r => exact isFrameOf_payload _ _ rfl hb (fun _ => rfl) fun u => moves_retire u _
  | clearRegulation o r =>
    exact isFrameOf_command _ rfl hb (fun _ => rfl) fun u =>
      .trans (.single (.clearRegulation u)) (moves_judged_answerDone _)
  | zeroBitFrame => exact absurd rfl hne
  | shortHeaderFrame b =>
    obtain rfl : b = bits := Option.some.inj hb
    exact ⟨_, fun s => exec_shortHeaderFrame_of_wf b s hwf, moves_refuseShort⟩
  | linkReset r =>
    obtain rfl : List.replicate headerLength true ++ r = bits := Option.some.inj hb
    refine ⟨State.load .empty [], fun s => ?_, fun u => moves_load_nil u .empty⟩
    rw [exec_linkReset, List.length_append, List.length_replicate, State.onCommand]
  | parityErrorFrame h r =>
    obtain rfl : wordBits h ++ r = bits := Option.some.inj hb
    refine ⟨_, fun s => ?_, moves_refuseParity⟩
    rw [exec_parityErrorFrame_of_wf h r s hwf, List.length_append, wordBits_length, State.onCommand, headerLength]
  | unknownCommand c o r =>
    exact isFrameOf_command _ rfl hb (fun s => exec_unknownCommand_of_wf c o r s hwf) fun u => moves_load_nil u _
  | requestAccept | issue | writeAck | readData | tick | periodEnd | halfGrant | holdLimitExpiry | drainStuck
  | freezeAssert | freezeRelease | hardReset | resetRelease | mSideCanTakeRequest | sselRemnantNegation =>
    cases hb

/-! ## Every command and event -/

/-- A command or event that answers a next state is a term of its row (log entry 7). -/
theorem wf_of_exec {i : Instr} {s t : State} (h : exec i s = .next t) : i.wf = true := by
  cases i with
  | shortHeaderFrame b =>
    have he : exec (.shortHeaderFrame b) s = execShortHeaderFrame b s := rfl
    rw [he, execShortHeaderFrame] at h
    split at h
    · assumption
    · cases h
  | parityErrorFrame d r =>
    have he : exec (.parityErrorFrame d r) s = execParityErrorFrame d r s := rfl
    rw [he, execParityErrorFrame] at h
    split at h
    · assumption
    · cases h
  | unknownCommand c o r =>
    have he : exec (.unknownCommand c o r) s = execUnknownCommand c o r s := rfl
    rw [he, execUnknownCommand] at h
    split at h
    · assumption
    · cases h
  | requestAccept r =>
    rw [exec_requestAccept, execRequestAccept] at h
    split at h
    · assumption
    · cases h
  | _ => rfl

/-- An event that comes only where it is due. -/
theorem moves_due {i : Instr} {s u : State} {p : Prop} [Decidable p] (h : p → Moves i s u) :
    Moves i s (if p then u else s) := by
  split
  next hp => exact h hp
  next => rfl

/-- A tick comes only while FREEZE is negated. -/
theorem State.freeze_of_ticksCome {s : State} (h : s.ticksCome = true) : s.freeze = false := by
  simp only [State.ticksCome, Bool.and_eq_true, Bool.not_eq_true'] at h
  exact h.2

/-- A row that is no frame is a series of acts. -/
theorem moves_of_event {i : Instr} {s t : State} (hi : frameBits i = none) (h : exec i s = .next t) :
    Moves i s t := by
  cases i with
  | requestAccept r =>
    have hwf : r.wf = true := wf_of_exec h
    rw [exec_requestAccept_of_wf r s hwf] at h
    cases h
    exact moves_accept s hi r hwf
  | issue b =>
    cases h
    exact moves_issue s b
  | writeAck tag st last =>
    cases h
    exact moves_due fun _ =>
      .trans (.single (.pass s _ hi)) ((moves_matchWriteAck _ hi tag st).trans (moves_judged _))
  | readData tag st beat last =>
    cases h
    exact moves_due fun _ =>
      .trans (.single (.pass s _ hi)) ((moves_matchReadData _ hi tag st last).trans (moves_judged _))
  | tick order later =>
    cases h
    exact moves_due fun ht => moves_makeTick s hi order later (State.freeze_of_ticksCome ht)
  | periodEnd c =>
    cases h
    exact moves_due fun _ => moves_takeOwed s hi _
  | halfGrant c =>
    cases h
    exact moves_due fun _ => moves_takeOwed s hi _
  | holdLimitExpiry k =>
    cases h
    exact moves_due fun _ => moves_takeOwed s hi _
  | drainStuck c =>
    cases h
    exact moves_due fun _ => moves_takeOwed s hi _
  | freezeAssert =>
    have he : exec .freezeAssert s
        = .next (if s.freeze then s else { s.settleTicks with freeze := true, count := 0 }) := rfl
    rw [he] at h
    cases h
    split
    · rfl
    · exact (moves_settleTicks s hi).tail (.setFreeze _ true fun _ => s.settleTicks_owed)
  | freezeRelease =>
    cases h
    exact moves_due fun _ => .single (.setFreeze s false nofun)
  | hardReset =>
    cases h
    exact .single (.hardReset s rfl)
  | resetRelease b =>
    cases h
    exact moves_due fun _ =>
      .trans (.single (.release s)) (.trans (.single (.setCount _ 0 (.inl rfl)))
        (.trans (.single (.setReceiver _ _)) (moves_judged _)))
  | mSideCanTakeRequest =>
    cases h
    exact .trans (.single (.setReady s true hi)) (moves_judged _)
  | sselRemnantNegation =>
    have he : exec .sselRemnantNegation s
        = .next (if s.resetAsserted then s else { s with receiver := .ready }) := rfl
    rw [he] at h
    cases h
    split
    · rfl
    · exact .single (.setReceiver s _)
  | _ => cases hi

/-- Every command and event is a series of acts, for a taken frame after the shift of the previous result. -/
theorem moves_of_exec {i : Instr} {s t : State} (h : exec i s = .next t) :
    Moves i s t ∨ ∃ bits : Bits, frameBits i = some bits ∧ Moves i (s.shiftOut bits.length) t := by
  cases hb : frameBits i with
  | none => exact .inl (moves_of_event hb h)
  | some bits =>
    by_cases hz : i = .zeroBitFrame
    · subst hz
      cases h
      exact .inl .refl
    · obtain ⟨f, he, hm⟩ := isFrameOf_of_frameBits (wf_of_exec h) hb hz
      rw [he] at h
      cases h
      unfold State.onFrame
      split
      · exact .inr ⟨bits, rfl, hm _⟩
      · exact .inl .refl

/-- What every act of a command or event keeps, and the shift leaves alone, the command or event keeps. -/
theorem exec_keeps {i : Instr} {P : State → Prop} (hshift : ∀ (s : State) (n : Nat), P s → P (s.shiftOut n))
    (hP : ∀ s t : State, Move i s t → P s → P t) {s t : State} (h : exec i s = .next t) (hs : P s) : P t := by
  rcases moves_of_exec h with hm | ⟨bits, -, hm⟩
  · exact hm.keeps hP hs
  · exact hm.keeps hP (hshift s _ hs)

/-- A REFCLK period is a series of acts that a tick too can be made of. -/
theorem moves_refclk (s : State) : Moves (.tick [] []) s s.refclk := by
  have hi : frameBits (.tick [] []) = none := rfl
  rcases s.refclk_cases with ⟨-, h⟩ | ⟨ht, hc, h⟩ | ⟨ht, -, h⟩ <;> rw [h]
  · obtain ⟨-, hfreeze, hdivisor⟩ := s.settleTicks_time
    refine (moves_settleTicks s hi).tail (.setCount _ _ (.inr ⟨by rwa [hdivisor], s.settleTicks_owed, ?_⟩))
    rw [hfreeze, State.freeze_of_ticksCome ht]
  · exact (moves_makeTick s hi _ _ (State.freeze_of_ticksCome ht)).tail (.setRefclkTicks _ _)

/-- What every act keeps, and the shift and the queue of commands leave alone, every step keeps. -/
theorem step_keeps {P : State → Prop} (hshift : ∀ (s : State) (n : Nat), P s → P (s.shiftOut n))
    (hqueue : ∀ (s : State) (l : List Instr), P s → P { s with pending := l })
    (hP : ∀ (i : Instr) (s t : State), Move i s t → P s → P t) {s t : State} (h : step s = .next t) (hs : P s) :
    P t := by
  unfold step at h
  split at h
  next =>
    cases h
    exact (moves_refclk s).keeps (hP _) hs
  next c rest _ => exact exec_keeps hshift (hP c) h (hqueue s rest hs)

end Sys2Proof.Machine
end

section
/-! SUPPORT. The laws of a sound state, block by block: each holds after reset, and each act of `Move` keeps it; so every
step keeps it. -/

namespace Sys2Proof.Machine

/-! ## The state after reset -/

theorem ClassRecord.reset_sound : ClassRecord.reset.Sound := ⟨rfl, rfl, rfl⟩

/-- Settles O55, law by law. -/
theorem soundAtReset : Obligations.SoundAtReset where
  classes c := by
    have hc : State.reset.classes[c] = .reset := Vector.getElem_replicate _
    rw [hc]
    exact ClassRecord.reset_sound
  lending c l h := by
    have hc : State.reset.classes[c] = .reset := Vector.getElem_replicate _
    rw [hc] at h
    cases h
  map j := by
    have hj : State.reset.map[j] = .reset := Vector.getElem_replicate _
    rw [hj]
    exact Nat.le_refl _
  pool := by
    have hk (k : SlotId) : State.reset.slots[k] = none := Vector.getElem_replicate _
    refine ⟨List.nodup_nil, fun k => ?_, fun k h hh => ?_⟩
    · rw [hk]
      exact ⟨nofun, nofun⟩
    · rw [hk] at hh
      cases hh
  flight := ⟨Nat.zero_le _, nofun⟩
  fences c := by
    have hc : State.reset.fences[c] = .reset := Vector.getElem_replicate _
    rw [hc]
    rfl
  queue := ⟨Nat.zero_le _, nofun, nofun⟩
  settings := ⟨by decide, by decide, by decide, by decide⟩
  holder := .inr rfl
  freeze := nofun
  owed := ⟨List.nodup_nil, fun h => absurd rfl h⟩
  reset := nofun

variable {i : Instr} {s t : State}

/-! ## The Region Map (R60) -/

theorem Move.keeps_mapSound (h : Move i s t) (hs : s.MapSound) : t.MapSound := by
  cases h with
  | writeEntry j e hle =>
    intro k
    by_cases hk : j = k
    · subst hk
      simpa using hle
    · have hne : j.val ≠ k.val := Fin.val_ne_of_ne hk
      have hget : (s.map.set j e)[k] = s.map[k] := Vector.getElem_set_ne _ _ hne
      show (s.map.set j e)[k].base.toNat ≤ (s.map.set j e)[k].limit.toNat
      rw [hget]
      exact hs k
  | clearRegulation => exact soundAtReset.map
  | hardReset => exact soundAtReset.map
  | _ => exact hs

/-! ## The Service Link (R166) -/

theorem Move.keeps_holderSound (h : Move i s t) (hs : s.HolderSound) : t.HolderSound := by
  cases h with
  | answer st d h => exact h
  | hardReset => exact soundAtReset.holder
  | _ => exact hs

/-! ## The Time Base (R177, R179, R183) -/

theorem Move.keeps_settingsSound (h : Move i s t) (hs : s.SettingsSound) : t.SettingsSound := by
  obtain ⟨hdivisor, hlow, hhigh, hcount⟩ := hs
  cases h with
  | controls c h =>
    obtain ⟨hc, hclow, hchigh⟩ := h
    exact ⟨hc, hclow, hchigh, show 0 < c.divisor.toNat by omega⟩
  | setCount n h =>
    refine ⟨hdivisor, hlow, hhigh, ?_⟩
    rcases h with rfl | ⟨hn, -⟩
    · exact show 0 < s.divisor.toNat by omega
    · exact hn
  | setFreeze => exact ⟨hdivisor, hlow, hhigh, show 0 < s.divisor.toNat by omega⟩
  | hardReset => exact soundAtReset.settings
  | _ => exact ⟨hdivisor, hlow, hhigh, hcount⟩

theorem Move.keeps_freezeSound (h : Move i s t) (hs : s.FreezeSound) : t.FreezeSound := by
  cases h with
  | controls => exact fun hf => ⟨rfl, (hs hf).2⟩
  | owe l h =>
    intro hf
    obtain ⟨hcount, howed⟩ := hs hf
    refine ⟨hcount, ?_⟩
    rcases h with hl | ⟨-, -, hnot⟩
    · exact List.sublist_nil.mp (howed ▸ hl)
    · exact absurd hf (ne_true_of_eq_false hnot)
  | setCount n h =>
    intro hf
    obtain ⟨-, howed⟩ := hs hf
    rcases h with rfl | ⟨-, -, hnot⟩
    · exact ⟨rfl, howed⟩
    · exact absurd hf (ne_true_of_eq_false hnot)
  | setFreeze b h => exact fun hb => ⟨rfl, h hb⟩
  | hardReset => exact fun _ => ⟨rfl, rfl⟩
  | _ => exact hs

theorem Move.keeps_owedSound (h : Move i s t) (hs : s.OwedSound) : t.OwedSound := by
  obtain ⟨hnodup, hcount⟩ := hs
  cases h with
  | controls => exact ⟨hnodup, fun _ => rfl⟩
  | owe l h =>
    rcases h with hl | ⟨hl, hzero, -⟩
    · refine ⟨hnodup.sublist hl, fun hne => hcount fun howed => hne ?_⟩
      exact List.sublist_nil.mp (howed ▸ hl)
    · exact ⟨hl, fun _ => hzero⟩
  | setCount n h =>
    refine ⟨hnodup, fun hne => ?_⟩
    rcases h with rfl | ⟨-, howed, -⟩
    · rfl
    · exact absurd howed hne
  | setFreeze => exact ⟨hnodup, fun _ => rfl⟩
  | hardReset => exact soundAtReset.owed
  | _ => exact ⟨hnodup, hcount⟩

/-! ## The Report Queue (R143, R145) -/

theorem State.handOver_queueSound (p : PeriodFacts) (hs : s.QueueSound) : (s.handOver p).QueueSound := by
  obtain ⟨hlength, hserial, hgap⟩ := hs
  rcases Nat.lt_or_ge s.records.length queueCapacity with hroom | hfull
  · rw [s.handOver_admitted p hroom]
    refine ⟨by simpa using hroom, fun j q hq => ?_, fun q hq => ?_⟩
    · simp only [List.length_append, List.length_singleton]
      rcases Nat.lt_trichotomy j s.records.length with hold | hnew | hpast
      · have hq' : s.records[j]? = some q := by rwa [List.getElem?_append_left hold] at hq
        have hone : s.records.length + 1 - j = (s.records.length - j) + 1 := by omega
        rw [hone, BitVec.ofNat_add, ← BitVec.add_assoc, hserial j q hq']
        rfl
      · subst hnew
        simp only [List.getElem?_concat_length, Option.some.injEq] at hq
        rw [← hq, Nat.add_sub_cancel_left]
        rfl
      · rw [List.getElem?_eq_none (by simpa using hpast)] at hq
        cases hq
    · rcases List.mem_append.mp hq with hold | hnew
      · exact hgap q hold
      · obtain rfl := List.mem_singleton.mp hnew
        dsimp only
        split
        next => exact nofun
        next h => exact fun he => h (Option.some.inj he)
  · rw [s.handOver_dropped p hfull]
    exact ⟨hlength, hserial, hgap⟩

/-- The queue without its oldest record is within the law. -/
theorem State.QueueSound.tail {p : PeriodRecord} {younger : List PeriodRecord} (hs : s.QueueSound)
    (h : s.records = p :: younger) : ({ s with records := younger } : State).QueueSound := by
  obtain ⟨hlength, hserial, hgap⟩ := hs
  rw [h] at hlength hserial hgap
  refine ⟨Nat.le_of_succ_le hlength, fun j q hq => ?_, fun q hq => hgap q (List.mem_cons_of_mem p hq)⟩
  simpa using hserial (j + 1) q (by simpa using hq)

theorem Move.keeps_queueSound (h : Move i s t) (hs : s.QueueSound) : t.QueueSound := by
  cases h with
  | handOver p => exact State.handOver_queueSound p hs
  | retire p younger h => exact hs.tail h
  | clearRegulation => exact soundAtReset.queue
  | hardReset => exact soundAtReset.queue
  | _ => exact hs

/-- Settles O58: every act of a step keeps the law, a hand-over and a retirement by the count of the records. -/
theorem serialLawKept : Obligations.SerialLawKept := fun _ _ hs h =>
  step_keeps (P := State.QueueSound) (fun _ _ hs => hs) (fun _ _ hs => hs) (fun _ _ _ => Move.keeps_queueSound) h hs

/-! ## The lending law (R51) -/

theorem ClassRecord.borrows_of_names {r : ClassRecord} {l : ClassId} (h : r.names l = true) : r.borrows = true := by
  rw [ClassRecord.borrows_iff]
  rcases (r.names_iff l).mp h with h | h
  · exact .inl (by simp [h])
  · exact .inr (by simp [h])

/-- A change of one class record that adds no lender keeps the law. -/
theorem State.LendingSound.updateClass_of_names {c : ClassId} {f : ClassRecord → ClassRecord}
    (hs : s.LendingSound) (hnames : ∀ l : ClassId, (f s.classes[c]).names l = true → s.classes[c].names l = true)
    (hborrows : (f s.classes[c]).borrows = true → s.classes[c].borrows = true) :
    (s.updateClass c f).LendingSound := by
  have hn (d l : ClassId) (h : (s.updateClass c f).classes[d].names l = true) : s.classes[d].names l = true := by
    rw [State.updateClass_get] at h
    split at h
    next hd => subst hd; exact hnames l h
    next => exact h
  have hb (d : ClassId) (h : s.classes[d].borrows = false) : (s.updateClass c f).classes[d].borrows = false := by
    rw [State.updateClass_get]
    split
    next hd =>
      subst hd
      exact Bool.eq_false_iff.mpr fun hf => Bool.false_ne_true (h.symm.trans (hborrows hf))
    next => exact h
  intro d l h
  obtain ⟨hne, hl⟩ := hs d l (hn d l h)
  exact ⟨hne, hb l hl⟩

/-- A change of one class record that keeps both lenders keeps the law. -/
theorem State.LendingSound.updateClass_of_eq {c : ClassId} {f : ClassRecord → ClassRecord} (hs : s.LendingSound)
    (ha : (f s.classes[c]).active.lender = s.classes[c].active.lender)
    (hg : (f s.classes[c]).staged.lender = s.classes[c].staged.lender) : (s.updateClass c f).LendingSound :=
  hs.updateClass_of_names (fun l h => by rwa [ClassRecord.names, ha, hg] at h)
    fun h => by rwa [ClassRecord.borrows, ha, hg] at h

/-- The adoption of the staged descriptor keeps the law. -/
theorem State.LendingSound.updateClass_of_adopts {c : ClassId} {f : ClassRecord → ClassRecord}
    (hs : s.LendingSound) (ha : (f s.classes[c]).active = s.classes[c].staged)
    (hg : (f s.classes[c]).staged = s.classes[c].staged) : (s.updateClass c f).LendingSound := by
  refine hs.updateClass_of_names (fun l h => ?_) fun h => ?_
  · rw [ClassRecord.names_iff] at h ⊢
    rw [ha, hg, or_self] at h
    exact .inr h
  · rw [ClassRecord.borrows_iff] at h ⊢
    rw [ha, hg, or_self] at h
    exact .inr h

/-- A staged descriptor that the validation lets pass keeps the law: its lender is another class that borrows from
none, and where it has a lender no class borrows from its own. -/
theorem State.LendingSound.stage {c : ClassId} {d : Descriptor} (hs : s.LendingSound)
    (h : ¬ s.lendingRefuses c d = true) : (s.updateClass c (ClassRecord.stage d)).LendingSound := by
  have hpass (l : ClassId) (hl : d.lender = some l) :
      l ≠ c ∧ s.classes[l].borrows = false ∧ ∀ b : ClassId, s.classes[b].names c = false := by
    refine ⟨fun hlc => ?_, Bool.eq_false_iff.mpr fun hb => ?_, fun b => Bool.eq_false_iff.mpr fun hn => ?_⟩ <;>
      refine h ((s.lendingRefuses_iff c d).mpr ⟨l, hl, ?_⟩)
    · exact .inl hlc
    · exact .inr (((ClassRecord.borrows_iff _).mp hb).imp_right .inl)
    · exact .inr (.inr (.inr ⟨b, (ClassRecord.names_iff _ c).mp hn⟩))
  have hnames (l : ClassId) (hn : (s.classes[c].stage d).names l = true) :
      d.lender = some l ∨ s.classes[c].names l = true := by
    rw [ClassRecord.names_iff, ClassRecord.stage_eq] at hn
    rw [ClassRecord.names_iff]
    dsimp only at hn
    split at hn
    · exact .inl (or_self_iff.mp hn)
    · exact hn.symm.imp_right .inl
  have hborrows (hb : (s.classes[c].stage d).borrows = true) :
      d.lender ≠ none ∨ s.classes[c].borrows = true := by
    rw [ClassRecord.borrows_iff, ClassRecord.stage_eq] at hb
    rw [ClassRecord.borrows_iff]
    dsimp only at hb
    split at hb
    · exact .inl (or_self_iff.mp hb)
    · exact hb.symm.imp_right .inl
  intro e l hn
  rw [State.updateClass_get] at hn
  obtain ⟨hne, hl⟩ : l ≠ e ∧ s.classes[l].borrows = false := by
    split at hn
    next hce =>
      subst hce
      rcases hnames l hn with hd | hold
      · exact ⟨(hpass l hd).1, (hpass l hd).2.1⟩
      · exact hs c l hold
    next => exact hs e l hn
  refine ⟨hne, ?_⟩
  rw [State.updateClass_get]
  split
  next hcl =>
    subst hcl
    rw [if_neg hne] at hn
    refine Bool.eq_false_iff.mpr fun hb => ?_
    rcases hborrows hb with hd | hold
    · obtain ⟨m, hm⟩ := Option.ne_none_iff_exists'.mp hd
      exact Bool.false_ne_true (((hpass m hm).2.2 e).symm.trans hn)
    · exact Bool.false_ne_true (hl.symm.trans hold)
  next => exact hl

/-- A charge changes no descriptor. -/
theorem State.LendingSound.charge (hs : s.LendingSound) (h : HeldSlot) (m : Means) :
    (s.charge h m).LendingSound := by
  intro c l hn
  rw [State.charge_get] at hn ⊢
  exact hs c l hn

theorem Move.keeps_lendingSound (h : Move i s t) (hs : s.LendingSound) : t.LendingSound := by
  cases h with
  | stage c d h => exact hs.stage h
  | start => exact hs.updateClass_of_eq rfl rfl
  | stop => exact hs.updateClass_of_adopts rfl rfl
  | renew => exact hs.updateClass_of_adopts rfl rfl
  | countTick => exact hs.updateClass_of_eq rfl rfl
  | issue k h m => exact hs.charge h m
  | clearRegulation => exact soundAtReset.lending
  | hardReset => exact soundAtReset.lending
  | _ => exact hs

/-- Settles O56: the acts that write descriptors are the staging of a validated one and the adoption of the staged
one. -/
theorem lendingLawKept : Obligations.LendingLawKept := fun _ _ hs h =>
  step_keeps (P := State.LendingSound) (fun _ _ hs => hs) (fun _ _ hs => hs) (fun _ _ _ => Move.keeps_lendingSound)
    h hs

/-! ## The Hold Pool (R67 to R69) -/

/-- Slots that hold the same requests, with the same arrival order, are within the law too. -/
theorem State.PoolSound.of_requests (hs : s.PoolSound) (harrival : t.arrival = s.arrival)
    (hslots : ∀ k : SlotId, (t.slots[k]).map HeldSlot.request = (s.slots[k]).map HeldSlot.request) :
    t.PoolSound := by
  obtain ⟨hnodup, hmem, hwf⟩ := hs
  refine ⟨harrival ▸ hnodup, fun k => ?_, fun k h hk => ?_⟩
  · rw [harrival, hmem, ← Option.isSome_map (f := HeldSlot.request), ← hslots k, Option.isSome_map]
  · have hreq := hslots k
    rw [hk, Option.map_some] at hreq
    obtain ⟨g, hg, hgr⟩ := Option.map_eq_some_iff.mp hreq.symm
    exact hgr ▸ hwf k g hg

/-- A judgement changes no request. -/
theorem State.judged_slot_request (s : State) (k : SlotId) :
    (s.judged.slots[k]).map HeldSlot.request = (s.slots[k]).map HeldSlot.request := by
  rcases s.judged_slot_cases k with ⟨h, hj⟩ | ⟨g, w, h, -, hj⟩ <;> rw [h, hj]
  rfl

/-- A tick changes no request. -/
theorem State.tickHeld_request (s : State) (h : HeldSlot) : (s.tickHeld h).request = h.request := by
  rcases s.tickHeld_cases h with ⟨-, he⟩ | ⟨-, he⟩ <;> rw [he]

theorem State.PoolSound.acceptInto {k : SlotId} {r : Request} (hs : s.PoolSound) (hr : r.wf = true)
    (hk : s.slots[k] = none) : (s.acceptInto k r).PoolSound := by
  obtain ⟨hnodup, hmem, hwf⟩ := hs
  have hnot : k ∉ s.arrival := fun h => by simpa [hk] using (hmem k).mp h
  have hget (j : SlotId) : (s.acceptInto k r).slots[j] = if k = j then some (s.freshSlot r) else s.slots[j] := by
    simp only [State.acceptInto, Fin.getElem_fin, Vector.getElem_set, Fin.ext_iff]
  refine ⟨List.nodup_append.mpr ⟨hnodup, List.nodup_singleton k, fun a ha b hb => ?_⟩, fun j => ?_, fun j h hj => ?_⟩
  · rintro rfl
    exact hnot (List.mem_singleton.mp hb ▸ ha)
  · have harr : j ∈ (s.acceptInto k r).arrival ↔ j ∈ s.arrival ∨ j = k := by simp [State.acceptInto]
    rw [harr, hget, hmem]
    by_cases hjk : k = j
    · simp [hjk]
    · simp [hjk, Ne.symm hjk]
  · rw [hget] at hj
    split at hj
    · rw [← Option.some.inj hj]
      exact hr
    · exact hwf j h hj

theorem State.PoolSound.sendOut (hs : s.PoolSound) (k : SlotId) (h : HeldSlot) : (s.sendOut k h).PoolSound := by
  obtain ⟨hnodup, hmem, hwf⟩ := hs
  have hget (j : SlotId) : (s.sendOut k h).slots[j] = if k = j then none else s.slots[j] := by
    simp only [State.sendOut, Fin.getElem_fin, Vector.getElem_set, Fin.ext_iff]
  refine ⟨hnodup.filter _, fun j => ?_, fun j g hj => ?_⟩
  · have harr : j ∈ (s.sendOut k h).arrival ↔ j ∈ s.arrival ∧ j ≠ k := by simp [State.sendOut]
    rw [harr, hget, hmem]
    by_cases hjk : k = j
    · simp [hjk]
    · simp [hjk, Ne.symm hjk]
  · rw [hget] at hj
    split at hj
    · cases hj
    · exact hwf j g hj

theorem Move.keeps_poolSound (h : Move i s t) (hs : s.PoolSound) : t.PoolSound := by
  cases h with
  | judge => exact hs.of_requests rfl s.judged_slot_request
  | accept k r hr hk => exact hs.acceptInto hr hk
  | tickPool =>
    refine hs.of_requests rfl fun k => ?_
    rw [tabulate_get, Option.map_map]
    exact congrArg (fun f => (s.slots[k]).map f) (funext s.tickHeld_request)
  | issue k h m => exact hs.sendOut k h
  | hardReset => exact soundAtReset.pool
  | _ => exact hs

end Sys2Proof.Machine
end

section
/-! SUPPORT. The laws that join two blocks: the In-Flight Table and the Fence Monitor with what an issue makes of them,
and the class records with what a charge makes of them. Then every law together is kept by every step. -/

namespace Sys2Proof.Machine

variable {i : Instr} {s t : State}

/-! ## The In-Flight Table (R97, R98) -/

/-- A packet that the link carries has 1 to 16 beats (R69). -/
theorem Request.length_of_wf {r : Request} (h : r.wf = true) : 1 ≤ r.length ∧ r.length ≤ 16 := by
  simp only [Request.wf, Bool.and_eq_true, decide_eq_true_eq] at h
  obtain ⟨⟨⟨hlow, hhigh⟩, -⟩, -⟩ := h
  exact ⟨hlow, hhigh⟩

/-- What a search of the In-Flight Table finds is the oldest match. -/
theorem State.exists_oldestMatch {p : Entry → Bool} {e : Entry} (h : s.inFlight.find? p = some e) :
    ∃ older younger : List Entry, s.OldestMatch p older e younger := by
  obtain ⟨hpicked, older, younger, horder, hfail⟩ := List.find?_eq_some_iff_append.mp h
  exact ⟨older, younger, horder, fun x hx => by simpa using hfail x hx, hpicked⟩

theorem HeldSlot.entry_sound {h : HeldSlot} (hwf : h.request.wf = true) : h.entry.Sound := by
  obtain ⟨hlow, hhigh⟩ := Request.length_of_wf hwf
  unfold HeldSlot.entry Entry.Sound
  cases h.request.kind
  · exact ⟨hlow, hhigh, Nat.zero_le _⟩
  · trivial

theorem Entry.Sound.oneMore {e : Entry} (hs : e.Sound) (hf : e.full = false) : e.oneMore.Sound := by
  cases he : e.flight with
  | write =>
    have : e.oneMore = e := by rw [Entry.oneMore, he]
    rwa [this]
  | read n c =>
    simp only [Entry.Sound, he] at hs
    have hlt : c < n := by simpa [Entry.full, he] using hf
    obtain ⟨hlow, hhigh, -⟩ := hs
    simp only [Entry.Sound, Entry.oneMore, he]
    exact ⟨hlow, hhigh, hlt⟩

/-- One more beat takes no entry out and puts none in. -/
theorem State.FlightSound.countBeat {p : Entry → Bool} {e : Entry} (hs : s.FlightSound)
    (h : s.inFlight.find? p = some e) (hf : e.full = false) : (s.countBeat p).FlightSound := by
  obtain ⟨older, younger, hmatch⟩ := State.exists_oldestMatch h
  obtain ⟨hlength, hsound⟩ := hs
  rw [hmatch.order] at hlength hsound
  rw [hmatch.countBeat_eq]
  refine ⟨by simpa using hlength, fun x hx => ?_⟩
  rcases List.mem_append.mp hx with hx | hx
  · exact hsound x (List.mem_append_left _ hx)
  rcases List.mem_cons.mp hx with rfl | hx
  · exact (hsound e (by simp)).oneMore hf
  · exact hsound x (List.mem_append_right _ (List.mem_cons_of_mem _ hx))

theorem Move.keeps_flightSound (h : Move i s t) (hp : s.PoolSound) (hs : s.FlightSound) : t.FlightSound := by
  cases h with
  | leave p e h =>
    obtain ⟨hlength, hsound⟩ := hs
    exact ⟨(s.dropEntry_sublist p).length_le.trans hlength, fun x hx => hsound x ((s.dropEntry_sublist p).mem hx)⟩
  | beat p e h hf => exact hs.countBeat h hf
  | issue k h m hk hf hm hspace =>
    obtain ⟨-, hsound⟩ := hs
    obtain ⟨-, -, hwf⟩ := hp
    have hroom : s.inFlight.length < 48 := s.spaceHolds_iff.mp hspace
    refine ⟨?_, fun x hx => ?_⟩
    · show (s.inFlight ++ [h.entry]).length ≤ 48
      rw [List.length_append, List.length_singleton]
      exact hroom
    · rcases List.mem_append.mp hx with hx | hx
      · exact hsound x hx
      · rw [List.mem_singleton.mp hx]
        exact HeldSlot.entry_sound (hwf k h hk)
  | hardReset => exact soundAtReset.flight
  | _ => exact hs

/-! ## The Fence Monitor (R113, R114) -/

/-- A fence agrees with whether its class has an in-flight entry (R113, R114). -/
def FenceRecord.Agrees (f : FenceRecord) (entry : Bool) : Prop :=
  match f.state with
  | .unfenced => f.timer = 0
  | .fenced => entry = false
  | .draining => entry = true
  | .stuck => entry = true

theorem State.fencesSound_iff (s : State) :
    s.FencesSound ↔ ∀ c : ClassId, (s.fences[c]).Agrees (s.hasEntry c) := Iff.rfl

theorem FenceRecord.reset_agrees (entry : Bool) : FenceRecord.reset.Agrees entry := rfl

theorem FenceRecord.agrees_of_unfenced {f : FenceRecord} {a b : Bool} (h : f.state = .unfenced) (hs : f.Agrees a) :
    f.Agrees b := by
  simp only [FenceRecord.Agrees, h] at hs ⊢
  exact hs

theorem FenceRecord.agrees_of_active {f : FenceRecord} (h : f.state = .draining ∨ f.state = .stuck) :
    f.Agrees true := by
  rcases h with h | h <;> simp only [FenceRecord.Agrees, h]

/-- A class with an entry is not FENCED. -/
theorem FenceRecord.Agrees.cases {f : FenceRecord} (hs : f.Agrees true) :
    f.state = .unfenced ∨ f.state = .draining ∨ f.state = .stuck := by
  cases h : f.state with
  | fenced => simp [FenceRecord.Agrees, h] at hs
  | unfenced | draining | stuck => simp

theorem FenceRecord.Agrees.tick {f : FenceRecord} {entry : Bool} (hs : f.Agrees entry) (limit : BitVec 16) :
    (f.tick limit).Agrees entry := by
  rcases f.tick_cases limit with ⟨-, h⟩ | ⟨hd, h⟩ <;> rw [h]
  · exact hs
  · obtain rfl : entry = true := by simpa only [FenceRecord.Agrees, hd] using hs
    refine FenceRecord.agrees_of_active ?_
    dsimp only
    split
    · exact .inr rfl
    · exact .inl rfl

/-- FENCE leaves a class with entries DRAINING, or as it was, and one without FENCED, or as it was. -/
theorem State.fenced_agrees {c : ClassId} (hs : (s.fences[c]).Agrees (s.hasEntry c)) :
    (s.fenced c).Agrees (s.hasEntry c) := by
  by_cases h : s.fences[c].state = .unfenced
  · simp only [State.fenced, h]
    cases hasEntry : s.hasEntry c <;> rfl
  · rwa [s.fenced_of_not_unfenced c h]

/-- The entries of a class are those of the table without the oldest match, and that match where it is the class's. -/
theorem State.OldestMatch.hasEntry_eq {p : Entry → Bool} {older younger : List Entry} {e : Entry}
    (h : s.OldestMatch p older e younger) (c : ClassId) :
    s.hasEntry c = ((s.dropEntry p).hasEntry c || e.cls == c) := by
  rw [h.dropEntry_eq, State.hasEntry, State.hasEntry, h.order]
  simp only [List.any_append, List.any_cons]
  cases e.cls == c <;> simp

/-- The match leaves and a class that it drains becomes FENCED. -/
theorem State.FencesSound.drainReport {p : Entry → Bool} {e : Entry} (hs : s.FencesSound)
    (h : s.inFlight.find? p = some e) : ((s.dropEntry p).drainReport e.cls).FencesSound := by
  obtain ⟨older, younger, hmatch⟩ := State.exists_oldestMatch h
  rcases (s.dropEntry p).drainReport_cases e.cls with ⟨⟨hnone, -⟩, hd⟩ | ⟨hnot, hd⟩ <;> rw [hd] <;> intro c
  · have hget : (s.fences.set e.cls { s.fences[e.cls] with state := .fenced })[c]
        = if e.cls = c then { s.fences[e.cls] with state := .fenced } else s.fences[c] := by
      simp only [Fin.getElem_fin, Vector.getElem_set, Fin.ext_iff]
    show ((s.fences.set e.cls { s.fences[e.cls] with state := .fenced })[c]).Agrees ((s.dropEntry p).hasEntry c)
    rw [hget]
    by_cases hc : e.cls = c
    · subst hc
      rw [if_pos rfl, hnone]
      rfl
    · have hentry := hmatch.hasEntry_eq c
      rw [beq_eq_false_iff_ne.mpr hc, Bool.or_false] at hentry
      rw [if_neg hc, ← hentry]
      exact hs c
  · have hentry := hmatch.hasEntry_eq c
    have hsc : (s.fences[c]).Agrees (s.hasEntry c) := hs c
    show (s.fences[c]).Agrees ((s.dropEntry p).hasEntry c)
    by_cases hc : e.cls = c
    · subst hc
      rw [beq_self_eq_true, Bool.or_true] at hentry
      rw [hentry] at hsc
      rcases hsc.cases with hu | hactive
      · exact FenceRecord.agrees_of_unfenced hu hsc
      · have hleft : (s.dropEntry p).hasEntry e.cls = true :=
          eq_true_of_ne_false fun hnone => hnot ⟨hnone, hactive⟩
        rwa [hleft]
    · rw [beq_eq_false_iff_ne.mpr hc, Bool.or_false] at hentry
      rwa [← hentry]

/-- One more beat leaves each class the entries it has. -/
theorem State.hasEntry_countBeat {p : Entry → Bool} {e : Entry} (h : s.inFlight.find? p = some e) (c : ClassId) :
    (s.countBeat p).hasEntry c = s.hasEntry c := by
  obtain ⟨older, younger, hmatch⟩ := State.exists_oldestMatch h
  have hcls : e.oneMore.cls = e.cls := by
    unfold Entry.oneMore
    cases e.flight <;> rfl
  rw [hmatch.countBeat_eq, State.hasEntry, State.hasEntry, hmatch.order]
  simp only [List.any_append, List.any_cons, hcls]

theorem Move.keeps_fencesSound (h : Move i s t) (hs : s.FencesSound) : t.FencesSound := by
  cases h with
  | fence named =>
    intro c
    cases hn : named.getD c.val false with
    | false =>
      dsimp only
      rw [s.fencesAfterFence_unnamed named c hn]
      exact hs c
    | true =>
      dsimp only
      rw [s.fencesAfterFence_named named c hn]
      exact State.fenced_agrees (hs c)
  | unfence named =>
    intro c
    show ((tabulate fun c => if namedIn named c then FenceRecord.reset else s.fences[c])[c]).Agrees (s.hasEntry c)
    rw [tabulate_get]
    split
    · exact FenceRecord.reset_agrees _
    · exact hs c
  | clearRegulation =>
    intro c
    have hc : s.clearRegulation.fences[c] = .reset := Vector.getElem_replicate _
    rw [hc]
    exact FenceRecord.reset_agrees (s.hasEntry c)
  | leave p e h =>
    have hd := hs.drainReport h
    rwa [State.drainReport_eq] at hd
  | beat p e h =>
    intro c
    rw [State.hasEntry_countBeat h]
    exact hs c
  | tickFences =>
    intro c
    show ((tabulate fun c => (s.fences[c]).tick s.drainLimit)[c]).Agrees (s.hasEntry c)
    rw [tabulate_get]
    exact (show (s.fences[c]).Agrees (s.hasEntry c) from hs c).tick _
  | issue k h m hk hf =>
    intro c
    show (s.fences[c]).Agrees ((s.inFlight ++ [h.entry]).any fun e => e.cls == c)
    have hsc : (s.fences[c]).Agrees (s.hasEntry c) := hs c
    by_cases hc : h.cls = c
    · subst hc
      exact FenceRecord.agrees_of_unfenced ((s.fenceHolds_iff h).mp hf) hsc
    · have hentry : (h.entry.cls == c) = false := beq_eq_false_iff_ne.mpr hc
      rw [List.any_append, List.any_cons, List.any_nil, hentry, Bool.or_false, Bool.or_false]
      exact hsc
  | hardReset => exact soundAtReset.fences
  | _ => exact hs

/-- Settles O57: an entry comes to an UNFENCED class alone, and the drain report follows the entry that leaves. -/
theorem fenceLawKept : Obligations.FenceLawKept := fun _ _ hs h =>
  step_keeps (P := State.FencesSound) (fun _ _ hs => hs) (fun _ _ hs => hs) (fun _ _ _ => Move.keeps_fencesSound)
    h hs

/-! ## The Class Table (R3, R5, R6, R7, R27) -/

/-- The bounds of a regulated class's credit and counter (R6, R7). -/
def ClassRecord.InBounds (r : ClassRecord) : Prop :=
  -15 ≤ r.credit ∧ r.credit ≤ r.active.budget.toNat ∧ r.counter.toNat < r.active.period.toNat
    ∧ (r.active.mode = .split → 2 ≤ r.active.period.toNat → r.counter.toNat < r.active.period.toNat / 2 →
        r.credit ≤ (r.active.budget.toNat + 1) / 2)

section
variable {r : ClassRecord}

theorem ClassRecord.sound_of_idle (h : r.run = .idle) :
    r.Sound ↔ r.credit = 0 ∧ r.counter = 0 ∧ r.staged = r.active := by
  simp only [ClassRecord.Sound, ClassRecord.kind, h]

theorem ClassRecord.sound_of_open (h : r.run = .running) (hp : r.active.period = 0) :
    r.Sound ↔ r.credit = 0 ∧ r.counter = 0 := by
  simp only [ClassRecord.Sound, ClassRecord.kind, h, hp, if_true]

theorem ClassRecord.sound_of_regulated (h : r.run = .running) (hp : r.active.period ≠ 0) :
    r.Sound ↔ r.InBounds := by
  simp only [ClassRecord.Sound, ClassRecord.kind, h, hp, if_false, ClassRecord.InBounds]

theorem ClassRecord.Sound.neg_fifteen_le (hs : r.Sound) : -15 ≤ r.credit := by
  cases hrun : r.run with
  | idle =>
    obtain ⟨hcredit, -⟩ := (ClassRecord.sound_of_idle hrun).mp hs
    omega
  | running =>
    by_cases hp : r.active.period = 0
    · obtain ⟨hcredit, -⟩ := (ClassRecord.sound_of_open hrun hp).mp hs
      omega
    · exact ((ClassRecord.sound_of_regulated hrun hp).mp hs).1

/-- The opening grant is part of the budget, and in SPLIT mode its upper half (R10). -/
theorem Descriptor.openingGrant_bounds (d : Descriptor) :
    0 ≤ d.openingGrant ∧ d.openingGrant ≤ d.budget.toNat
      ∧ (d.mode = .split → 2 ≤ d.period.toNat → d.openingGrant ≤ (d.budget.toNat + 1) / 2) := by
  unfold Descriptor.openingGrant
  cases d.mode with
  | whole => exact ⟨Int.natCast_nonneg _, Int.le_refl _, nofun⟩
  | split =>
    by_cases h : d.period = 1
    · have hone : d.period.toNat = 1 := by simp [h]
      simp only [h, if_true]
      exact ⟨by omega, by omega, fun _ h2 => by simp at h2⟩
    · simp only [h, if_false]
      exact ⟨by omega, by omega, fun _ _ => by omega⟩

/-- A class that opens a period, at counter 0, with its opening grant and a debt of at most 15 beats. -/
theorem ClassRecord.sound_of_opens (hrun : r.run = .running) (hcounter : r.counter = 0) (old : Int)
    (hold : -15 ≤ old) (hcredit : r.credit = r.active.renewedCredit old) : r.Sound := by
  unfold Descriptor.renewedCredit at hcredit
  by_cases hp : r.active.period = 0
  · rw [if_pos hp] at hcredit
    exact (ClassRecord.sound_of_open hrun hp).mpr ⟨hcredit, hcounter⟩
  · rw [if_neg hp] at hcredit
    obtain ⟨hlow, hhigh, hsplit⟩ := r.active.openingGrant_bounds
    have hpos : 0 < r.active.period.toNat := by
      have : r.active.period.toNat ≠ 0 := fun h => hp (BitVec.eq_of_toNat_eq h)
      omega
    refine (ClassRecord.sound_of_regulated hrun hp).mpr ⟨by omega, by omega, ?_, fun hm h2 _ => ?_⟩
    · rw [hcounter]
      exact hpos
    · have := hsplit hm h2
      omega

/-- The law of a RUNNING class does not speak of its staged descriptor. -/
theorem ClassRecord.Sound.stage (hs : r.Sound) (d : Descriptor) : (r.stage d).Sound := by
  rw [ClassRecord.stage_eq]
  by_cases hrun : r.run = .idle
  · obtain ⟨hcredit, hcounter, -⟩ := (ClassRecord.sound_of_idle hrun).mp hs
    rw [if_pos hrun]
    exact (ClassRecord.sound_of_idle (by exact hrun)).mpr ⟨hcredit, hcounter, rfl⟩
  · rw [if_neg hrun]
    have hrunning : r.run = .running := by
      cases h : r.run
      · exact absurd h hrun
      · rfl
    by_cases hp : r.active.period = 0
    · exact (ClassRecord.sound_of_open (by exact hrunning) (by exact hp)).mpr
        ((ClassRecord.sound_of_open hrunning hp).mp hs)
    · exact (ClassRecord.sound_of_regulated (by exact hrunning) (by exact hp)).mpr
        ((ClassRecord.sound_of_regulated hrunning hp).mp hs)

theorem ClassRecord.start_sound (r : ClassRecord) : r.start.Sound := by
  refine ClassRecord.sound_of_opens rfl rfl 0 (by decide) ?_
  simp [ClassRecord.start, Descriptor.startCredit, Descriptor.renewedCredit]

theorem ClassRecord.stop_sound (r : ClassRecord) : r.stop.Sound :=
  (ClassRecord.sound_of_idle rfl).mpr ⟨rfl, rfl, rfl⟩

theorem ClassRecord.Sound.renew (hs : r.Sound) (hrun : r.run = .running) : r.renew.Sound :=
  ClassRecord.sound_of_opens hrun rfl r.credit hs.neg_fifteen_le rfl

/-- A tick before the period end keeps a regulated class within its bounds: below half the period the half grant is
still to come, and it makes the upper half of a SPLIT budget whole. -/
theorem ClassRecord.Sound.countTick (hs : r.Sound) (hr : r.isRegulated = true)
    (hc : r.counter + 1 ≠ r.active.period) :
    ({ r with
        counter := r.counter + 1
        credit := if r.active.halfGrantAt (r.counter + 1) then r.credit + r.active.halfGrant else r.credit }
      : ClassRecord).Sound := by
  obtain ⟨hrun, hp⟩ := r.isRegulated_iff.mp hr
  obtain ⟨hlow, hhigh, hlt, hsplit⟩ := (ClassRecord.sound_of_regulated hrun hp).mp hs
  have hperiod := r.active.period.isLt
  have hone : (r.counter + 1).toNat = r.counter.toNat + 1 :=
    BitVec.toNat_add_of_lt (show r.counter.toNat + 1 < 2 ^ 16 by omega)
  have hne : r.counter.toNat + 1 ≠ r.active.period.toNat := fun h => hc (BitVec.eq_of_toNat_eq (hone.trans h))
  refine (ClassRecord.sound_of_regulated (by exact hrun) (by exact hp)).mpr ?_
  unfold ClassRecord.InBounds
  dsimp only
  rw [hone]
  by_cases hg : r.active.halfGrantAt (r.counter + 1) = true
  · rw [if_pos hg]
    simp only [Descriptor.halfGrantAt, Bool.and_eq_true, beq_iff_eq, decide_eq_true_eq, hone] at hg
    obtain ⟨⟨hmode, htwo⟩, hhalf⟩ := hg
    have hupper := hsplit hmode htwo (by omega)
    unfold Descriptor.halfGrant
    exact ⟨by omega, by omega, by omega, fun _ _ h => by omega⟩
  · rw [if_neg hg]
    exact ⟨hlow, hhigh, by omega, fun hm h2 h => hsplit hm h2 (by omega)⟩

/-- A charge that leaves the credit at -15 or more keeps a regulated class within its bounds. -/
theorem ClassRecord.Sound.charge (hs : r.Sound) (hr : r.isRegulated = true) (beats : Nat)
    (hlow : -15 ≤ r.credit - beats) : ({ r with credit := r.credit - beats } : ClassRecord).Sound := by
  obtain ⟨hrun, hp⟩ := r.isRegulated_iff.mp hr
  obtain ⟨-, hhigh, hlt, hsplit⟩ := (ClassRecord.sound_of_regulated hrun hp).mp hs
  refine (ClassRecord.sound_of_regulated (by exact hrun) (by exact hp)).mpr
    ⟨hlow, show r.credit - beats ≤ r.active.budget.toNat by omega, hlt, fun hm h2 h => ?_⟩
  have := hsplit hm h2 h
  show r.credit - beats ≤ (r.active.budget.toNat + 1) / 2
  omega

end

theorem State.ClassesSound.updateClass {c : ClassId} {f : ClassRecord → ClassRecord} (hs : s.ClassesSound)
    (hf : (f s.classes[c]).Sound) : (s.updateClass c f).ClassesSound := by
  intro d
  rw [State.updateClass_get]
  split
  · exact hf
  · exact hs d

/-- The class that an issue charges is regulated and is left at -15 beats or more: a request has at most 16 beats, own
credit is at least 1, and a lender's covers the length. -/
theorem State.charged_class {h : HeldSlot} {m : Means} (hm : s.creditMeans h = some m) (hlen : h.request.length ≤ 16)
    {c : ClassId} (hc : (m = .own ∧ c = h.cls) ∨ m = .lent c) :
    s.classes[c].isRegulated = true ∧ -15 ≤ s.classes[c].credit - h.request.length := by
  obtain ⟨-, -, hown, hlent⟩ := creditConditionMeans s h
  rcases hc with ⟨rfl, rfl⟩ | rfl
  · obtain ⟨hreg, -, hcredit⟩ := hown.mp hm
    exact ⟨(ClassRecord.isRegulated_iff _).mpr hreg, by omega⟩
  · obtain ⟨-, -, -, -, hreg, hcredit⟩ := (hlent c).mp hm
    exact ⟨(ClassRecord.isRegulated_iff _).mpr hreg, by omega⟩

theorem State.ClassesSound.charge {h : HeldSlot} {m : Means} (hs : s.ClassesSound)
    (hm : s.creditMeans h = some m) (hlen : h.request.length ≤ 16) : (s.charge h m).ClassesSound := by
  intro c
  rw [State.charge_get]
  by_cases hc : (m = .own ∧ c = h.cls) ∨ m = .lent c
  · rw [if_pos hc]
    obtain ⟨hr, hlow⟩ := State.charged_class hm hlen hc
    exact (hs c).charge hr _ hlow
  · rw [if_neg hc]
    exact hs c

theorem Move.keeps_classesSound (h : Move i s t) (hp : s.PoolSound) (hs : s.ClassesSound) : t.ClassesSound := by
  cases h with
  | stage c d => exact hs.updateClass ((hs c).stage d)
  | start c => exact hs.updateClass (ClassRecord.start_sound _)
  | stop c => exact hs.updateClass (ClassRecord.stop_sound _)
  | renew c hrun => exact hs.updateClass ((hs c).renew hrun)
  | countTick c hr hc => exact hs.updateClass ((hs c).countTick hr hc)
  | issue k h m hk hf hm =>
    obtain ⟨-, -, hwf⟩ := hp
    exact hs.charge hm (Request.length_of_wf (hwf k h hk)).2
  | clearRegulation => exact soundAtReset.classes
  | hardReset => exact soundAtReset.classes
  | _ => exact hs

/-- Settles O59: the pool's law is kept beside that of the class records, since an issue charges the length of the
request that it takes from the pool. -/
theorem creditLawKept : Obligations.CreditLawKept := by
  intro s t hclasses hpool h
  refine (step_keeps (P := fun u => u.ClassesSound ∧ u.PoolSound) (fun _ _ hs => hs) (fun _ _ hs => hs)
    (fun _ _ _ hm hs => ?_) h ⟨hclasses, hpool⟩).1
  exact ⟨hm.keeps_classesSound hs.2 hs.1, hm.keeps_poolSound hs.2⟩

end Sys2Proof.Machine
end

section
/-! SUPPORT. The events of a tick (R7, R11, R12, R82, R83, R118, R177 to R179): when each is due, what the block that
takes it leaves, and what a tick leaves as a whole. -/

namespace Sys2Proof.Machine

variable (s : State)

/-! ## When the events of a tick are due -/

theorem exec_periodEnd (c : ClassId) :
    exec (.periodEnd c) s = .next (if s.periodEndDue c then s.takeOwed (.record c) else s) := rfl

theorem exec_halfGrant (c : ClassId) :
    exec (.halfGrant c) s = .next (if s.halfGrantDue c then s.takeOwed (.record c) else s) := rfl

theorem exec_holdLimitExpiry (k : SlotId) :
    exec (.holdLimitExpiry k) s = .next (if s.expiryDue k then s.takeOwed .pool else s) := rfl

theorem exec_drainStuck (c : ClassId) :
    exec (.drainStuck c) s = .next (if s.stuckDue c then s.takeOwed .fenceMonitor else s) := rfl

theorem State.owesCountedTick_iff (c : ClassId) :
    s.owesCountedTick c = true
      ↔ TickTaker.record c ∈ s.owedTicks ∧ s.classes[c].run = .running ∧ s.classes[c].active.period ≠ 0 := by
  rw [State.owesCountedTick, Bool.and_eq_true, decide_eq_true_iff, ClassRecord.isRegulated_iff]

theorem State.periodEndDue_iff (c : ClassId) :
    s.periodEndDue c = true
      ↔ (TickTaker.record c ∈ s.owedTicks ∧ s.classes[c].run = .running ∧ s.classes[c].active.period ≠ 0)
        ∧ s.classes[c].counter + 1 = s.classes[c].active.period := by
  rw [State.periodEndDue, Bool.and_eq_true, State.owesCountedTick_iff, beq_iff_eq]

theorem State.halfGrantDue_iff (c : ClassId) :
    s.halfGrantDue c = true
      ↔ (TickTaker.record c ∈ s.owedTicks ∧ s.classes[c].run = .running ∧ s.classes[c].active.period ≠ 0)
        ∧ (s.classes[c].active.mode = .split ∧ 2 ≤ s.classes[c].active.period.toNat)
        ∧ (s.classes[c].counter + 1).toNat = s.classes[c].active.period.toNat / 2 := by
  rw [State.halfGrantDue, Bool.and_eq_true, State.owesCountedTick_iff, Descriptor.halfGrantAt, Bool.and_eq_true,
    Bool.and_eq_true, beq_iff_eq, beq_iff_eq, decide_eq_true_iff]

/-- The expiry of a held request at a tick, test by test (R83). -/
theorem HeldSlot.expiresAtTick_iff (f : FenceRecord) (r : ClassRecord) (h : HeldSlot) :
    h.expiresAtTick f r = true
      ↔ f.state = .unfenced ∧ r.run = .running ∧ r.active.period ≠ 0 ∧ r.active.holdLimit ≠ 0
        ∧ r.active.holdLimit.toNat ≤ min (h.wait.toNat + 1) 255 ∧ h.forced = false := by
  simp only [HeldSlot.expiresAtTick, Bool.and_eq_true, beq_iff_eq, bne_iff_ne, decide_eq_true_iff,
    Bool.not_eq_true', and_assoc]

theorem State.expiryDue_iff (k : SlotId) :
    s.expiryDue k = true
      ↔ TickTaker.pool ∈ s.owedTicks
        ∧ ∃ h : HeldSlot, s.slots[k] = some h ∧ h.expiresAtTick s.fences[h.cls] s.classes[h.cls] = true := by
  rw [State.expiryDue, Bool.and_eq_true, decide_eq_true_iff, State.slotExpires_eq, Option.any_eq_true]

theorem FenceRecord.sticks_iff (limit : BitVec 16) (f : FenceRecord) :
    f.sticks limit = true
      ↔ f.state = .draining ∧ limit ≠ 0 ∧ limit.toNat ≤ min (f.timer.toNat + 1) 65535 := by
  simp only [FenceRecord.sticks_eq, FenceRecord.sticksAtTick, Bool.and_eq_true, beq_iff_eq, bne_iff_ne,
    decide_eq_true_iff, and_assoc]

theorem State.stuckDue_iff (c : ClassId) :
    s.stuckDue c = true
      ↔ TickTaker.fenceMonitor ∈ s.owedTicks ∧ s.fences[c].state = .draining ∧ s.drainLimit ≠ 0
        ∧ s.drainLimit.toNat ≤ min (s.fences[c].timer.toNat + 1) 65535 := by
  rw [State.stuckDue, Bool.and_eq_true, decide_eq_true_iff, FenceRecord.sticks_iff]

/-- Settles O30: each condition that fails is one that the event needs to be due. -/
theorem tickEventsNotDueChangeNothing : Obligations.TickEventsNotDueChangeNothing := by
  intro s
  refine ⟨fun c => ⟨fun h => ?periodEnd, fun h => ?halfGrant⟩, fun k => ⟨fun h => ?unowed, fun g hg h => ?expiry⟩,
    fun c h => ?stuck⟩
  case periodEnd =>
    rw [exec_periodEnd, if_neg]
    rw [State.periodEndDue_iff]
    rintro ⟨⟨howed, hrun, hperiod⟩, hends⟩
    rcases h with h | h | h | h
    · exact h howed
    · exact absurd (hrun.symm.trans h) nofun
    · exact hperiod h
    · exact h hends
  case halfGrant =>
    rw [exec_halfGrant, if_neg]
    rw [State.halfGrantDue_iff]
    rintro ⟨⟨howed, hrun, hperiod⟩, ⟨hmode, htwo⟩, hhalf⟩
    rcases h with h | h | h | h | h | h
    · exact h howed
    · exact absurd (hrun.symm.trans h) nofun
    · exact hperiod h
    · exact absurd (hmode.symm.trans h) nofun
    · omega
    · exact h hhalf
  case unowed =>
    rw [exec_holdLimitExpiry, if_neg]
    rw [State.expiryDue_iff]
    rintro ⟨howed, g, hg, -⟩
    rcases h with h | h
    · exact h howed
    · rw [h] at hg
      cases hg
  case expiry =>
    rw [exec_holdLimitExpiry, if_neg]
    rw [State.expiryDue_iff]
    rintro ⟨-, g', hg', hexpires⟩
    obtain rfl : g = g' := Option.some.inj (hg.symm.trans hg')
    obtain ⟨hfence, hrun, hperiod, hlimit, hreached, hforced⟩ := (HeldSlot.expiresAtTick_iff _ _ g).mp hexpires
    rcases h with h | h | h | h | h | h
    · exact h hfence
    · exact absurd (hrun.symm.trans h) nofun
    · exact hperiod h
    · exact hlimit h
    · simp [hforced] at h
    · omega
  case stuck =>
    rw [exec_drainStuck, if_neg]
    rw [State.stuckDue_iff]
    rintro ⟨howed, hdraining, hlimit, hreached⟩
    rcases h with h | h | h | h
    · exact h howed
    · exact h hdraining
    · exact hlimit h
    · omega

/-! ## The event of one block -/

/-- The record of class `c` takes the tick it owes as its period end. -/
theorem State.takeOwed_of_ends (c : ClassId) (hr : s.classes[c].isRegulated = true)
    (hc : s.classes[c].counter + 1 = s.classes[c].active.period) :
    s.takeOwed (.record c)
      = ({ s.renewPeriod c .elapsed with owedTicks := s.owedTicks.filter fun t => t != .record c } : State).judged := by
  rcases s.tickRecord_cases c with ⟨hnot, -⟩ | ⟨-, -, h⟩ | ⟨-, hne, -⟩
  · rw [hr] at hnot
    cases hnot
  · rw [State.takeOwed, State.takeTick, h]
  · exact absurd hc hne

/-- Settles O26: the period end is due, and is the renewal of the period with cause ELAPSED. -/
theorem periodEndClosesAndOpens : Obligations.PeriodEndClosesAndOpens := by
  intro s c howed hrun hperiod hends facts reported d
  have hdue : s.periodEndDue c = true := (s.periodEndDue_iff c).mpr ⟨⟨howed, hrun, hperiod⟩, hends⟩
  rw [exec_periodEnd, if_pos hdue, s.takeOwed_of_ends c ((ClassRecord.isRegulated_iff _).mpr ⟨hrun, hperiod⟩) hends,
    State.renewPeriod_eq, State.report, State.periodFacts_eq, ClassRecord.renew, Descriptor.renewedCredit_eq]
  rfl

/-- Settles O27: half the period is not the whole of it, so the tick is no period end, and the half grant falls. -/
theorem halfGrantAddsHalfTheBudget : Obligations.HalfGrantAddsHalfTheBudget := by
  intro s c howed hrun hmode htwo hhalf
  have hperiod : s.classes[c].active.period ≠ 0 := by
    intro h
    rw [h] at htwo
    exact absurd htwo (by decide)
  have hr : s.classes[c].isRegulated = true := (ClassRecord.isRegulated_iff _).mpr ⟨hrun, hperiod⟩
  have hne : s.classes[c].counter + 1 ≠ s.classes[c].active.period := by
    intro h
    rw [h] at hhalf
    omega
  have hdue : s.halfGrantDue c = true :=
    (s.halfGrantDue_iff c).mpr ⟨⟨howed, hrun, hperiod⟩, ⟨hmode, htwo⟩, hhalf⟩
  have hgrant : s.classes[c].active.halfGrantAt (s.classes[c].counter + 1) = true := by
    rw [State.halfGrantDue, Bool.and_eq_true] at hdue
    exact hdue.2
  rw [exec_halfGrant, if_pos hdue]
  rcases s.tickRecord_cases c with ⟨hnot, -⟩ | ⟨-, hends, -⟩ | ⟨-, -, h⟩
  · rw [hr] at hnot
    cases hnot
  · exact absurd hends hne
  · rw [State.takeOwed, State.takeTick, h, State.updateClass, if_pos hgrant]
    rfl

/-- Settles O28: the pool's tick is the one written out slot by slot, and slot `k`'s request is among those that
expire. -/
theorem holdLimitExpiryForces : Obligations.HoldLimitExpiryForces := by
  intro s k h howed hk hfence hrun hperiod hlimit hforced hreached
  have hexpires : h.expiresAtTick s.fences[h.cls] s.classes[h.cls] = true :=
    (HeldSlot.expiresAtTick_iff _ _ h).mpr ⟨hfence, hrun, hperiod, hlimit, hreached, hforced⟩
  have hdue : s.expiryDue k = true := (s.expiryDue_iff k).mpr ⟨howed, h, hk, hexpires⟩
  have hany : (List.finRange 32).any s.slotExpires = true :=
    List.any_eq_true.mpr ⟨k, List.mem_finRange k, by rw [State.slotExpires_eq, hk]; exact hexpires⟩
  refine ⟨tabulate fun j => (s.slots[j]).map s.tickHeld, ?_, fun j => ?_, ?_⟩
  · rw [tabulate_get, hk, Option.map_some, State.tickHeld_eq, HeldSlot.afterTick, if_pos hfence, hexpires,
      Bool.or_true]
  · rw [tabulate_get]
    refine congrArg (fun f => (s.slots[j]).map f) (funext fun g => ?_)
    rw [State.tickHeld_eq, HeldSlot.afterTick, HeldSlot.expiresAtTick]
    split
    next hg =>
      rw [hg]
      cases g.forced <;> simp
    next => rfl
  · rw [exec_holdLimitExpiry, if_pos hdue, State.takeOwed, State.takeTick, State.tickPool_eq, if_pos hany]
    rfl

/-- Settles O29: the monitor's tick is the one written out class by class, and class `c` is among those that become
STUCK. -/
theorem drainLimitSticks : Obligations.DrainLimitSticks := by
  intro s c howed hdraining hlimit hreached
  have hsticks : (s.fences[c]).sticks s.drainLimit = true :=
    (FenceRecord.sticks_iff _ _).mpr ⟨hdraining, hlimit, hreached⟩
  have hdue : s.stuckDue c = true := (s.stuckDue_iff c).mpr ⟨howed, hdraining, hlimit, hreached⟩
  have hany : ((List.finRange 8).any fun d => (s.fences[d]).sticks s.drainLimit) = true :=
    List.any_eq_true.mpr ⟨c, List.mem_finRange c, hsticks⟩
  have htick (d : ClassId) : (s.fences[d]).tick s.drainLimit
      = if s.fences[d].state = .draining then
          { state := if s.drainLimit.toNat ≤ min (s.fences[d].timer.toNat + 1) 65535 then .stuck else .draining
            timer := BitVec.ofNat 16 (min (s.fences[d].timer.toNat + 1) 65535) }
        else s.fences[d] := by
    rcases FenceRecord.tick_cases s.drainLimit s.fences[d] with ⟨hnot, h⟩ | ⟨hd, h⟩
    · rw [h, if_neg hnot]
    · rw [h, if_pos hd, satAdd_toNat]
      simp only [hlimit, ne_eq, not_false_eq_true, true_and]
      rfl
  refine ⟨tabulate fun d => (s.fences[d]).tick s.drainLimit, ?_, fun d => ?_, ?_⟩
  · rw [tabulate_get, htick, if_pos hdraining, if_pos hreached]
  · rw [tabulate_get, htick]
  · rw [exec_drainStuck, if_pos hdue, State.takeOwed, State.takeTick, State.tickFences_eq, if_pos hany]
    rfl

/-! ## A tick as a whole -/

theorem exec_tick (order later : List TickTaker) :
    exec (.tick order later) s = .next (if s.ticksCome then s.makeTick order later else s) := rfl

theorem State.ticksCome_of (hr : s.resetAsserted = false) (hf : s.freeze = false) : s.ticksCome = true := by
  rw [State.ticksCome, hr, hf]
  rfl

/-- A series of hand-overs does not read the count. -/
theorem State.handOvers_setCount (n : Nat) (l : List PeriodFacts) :
    l.foldl (fun q p => q.handOver p) { s with count := n }
      = { l.foldl (fun q p => q.handOver p) s with count := n } := by
  have hone (q : State) (p : PeriodFacts) :
      ({ q with count := n } : State).handOver p = { q.handOver p with count := n } := by
    unfold State.handOver
    dsimp only
    split <;> rfl
  induction l generalizing s with
  | nil => rfl
  | cons p l ih => rw [List.foldl_cons, hone, ih, List.foldl_cons]

/-- A tick does not read the count. -/
theorem State.afterTick_setCount (n : Nat) (l : List TickTaker) :
    ({ s with count := n } : State).afterTick l = { s.afterTick l with count := n } := by
  have hela : ({ s with count := n } : State).elapsedRecords l = s.elapsedRecords l := rfl
  unfold State.afterTick
  rw [hela, State.handOvers_setCount]
  rfl

/-- What a tick leaves, written out block by block. -/
theorem State.makeTick_eq (order later : List TickTaker) (howed : s.owedTicks.Nodup) :
    s.makeTick order later
      = ({ s.settled.afterTick ((tickSequence order).filter fun u => u ∉ later) with
            count := 0
            owedTicks := (tickSequence order).filter fun u => u ∈ later } : State).judged := by
  have hnodup : ((tickSequence order).filter fun u => u ∉ later).Nodup := (nodup_tickSequence order).filter _
  rw [State.makeTick, s.settleTicks_eq howed]
  dsimp only
  rw [State.foldl_takeTick_eq _ _ hnodup, State.afterTick_setCount]

/-- Settles O31, with the sequence of the model. -/
theorem tickReachesEveryBlockOnce : Obligations.TickReachesEveryBlockOnce := by
  intro s order later hr hf howed
  refine ⟨tickSequence order, nodup_tickSequence order, mem_tickSequence order, List.prefix_append _ _, ?_⟩
  rw [exec_tick, if_pos (s.ticksCome_of hr hf), s.makeTick_eq order later howed]

/-- What a tick leaves to a block that does not take it is what that block had. -/
theorem State.afterTick_untaken (l : List TickTaker) :
    (∀ c : ClassId, TickTaker.record c ∉ l →
        (s.afterTick l).classes[c] = s.classes[c] ∧ (s.afterTick l).tallies[c] = s.tallies[c]
          ∧ (s.afterTick l).digests[c] = s.digests[c])
      ∧ (TickTaker.fenceMonitor ∉ l → (s.afterTick l).fences = s.fences)
      ∧ (TickTaker.pool ∉ l → (s.afterTick l).slots = s.slots) := by
  refine ⟨fun c hc => ?_, fun h => if_neg h, fun h => if_neg h⟩
  have hnot : ¬ (decide (TickTaker.record c ∈ l) && s.classes[c].endsAtTick) = true := by simp [hc]
  refine ⟨?_, (tabulate_get _ c).trans (if_neg hnot), (tabulate_get _ c).trans (if_neg hnot)⟩
  rw [State.afterTick_classes_get, State.recordAfter, if_neg hc]

/-- A FREE slot stays FREE at a judgement. -/
theorem State.judged_slot_none {s : State} {k : SlotId} (h : s.slots[k] = none) : s.judged.slots[k] = none := by
  rw [State.judged_slot, h, Option.map_none]

/-- Settles O32: a block that is not among the takers is as the settlement left it. -/
theorem tickTakenLaterIsOwed : Obligations.TickTakenLaterIsOwed := by
  intro s order later hr hf howed
  have hnot (u : TickTaker) (hu : u ∈ later) : u ∉ (tickSequence order).filter fun u => u ∉ later := by
    simp [hu]
  obtain ⟨hrecord, hmonitor, hpool⟩ := s.settled.afterTick_untaken ((tickSequence order).filter fun u => u ∉ later)
  refine ⟨_, by rw [exec_tick, if_pos (s.ticksCome_of hr hf), s.makeTick_eq order later howed], fun u => ?_,
    fun c hc => ?_, fun hm => ?_, fun hp k => ?_⟩
  · rw [State.judged_owedTicks]
    simp [mem_tickSequence]
  · rw [State.judged_classes, State.judged_tallies, State.judged_digests]
    exact hrecord c (hnot _ hc)
  · rw [State.judged_fences]
    exact hmonitor (hnot _ hm)
  · have hslots := hpool (hnot _ hp)
    generalize htaken : ({ s.settled.afterTick _ with count := 0, owedTicks := _ } : State) = u
    have hu : u.slots = s.settled.slots := by rw [← htaken, ← hslots]
    rw [← hu]
    refine ⟨State.judged_slot_none, fun h hk => ?_⟩
    rcases u.judged_slot_cases k with ⟨hfree, -⟩ | ⟨g, w, hg, -, hj⟩
    · rw [hk] at hfree
      cases hfree
    · obtain rfl : h = g := Option.some.inj (hk.symm.trans hg)
      exact ⟨w, hj⟩

/-! ## FREEZE and the REFCLK period -/

theorem exec_freezeAssert :
    exec .freezeAssert s = .next (if s.freeze then s else { s.settleTicks with freeze := true, count := 0 }) := rfl

theorem exec_freezeRelease :
    exec .freezeRelease s = .next (if s.freeze then { s with freeze := false, count := 0 } else s) := rfl

theorem State.not_ticksCome (h : s.resetAsserted = true ∨ s.freeze = true) : ¬ s.ticksCome = true := by
  rcases h with h | h <;> simp [State.ticksCome, h]

theorem step_of_empty (h : s.pending = []) : step s = .next s.refclk := by
  simp only [step, h]

/-- Settles O2: the three outcomes of a REFCLK period. -/
theorem emptyQueueIsOneRefclkPeriod : Obligations.EmptyQueueIsOneRefclkPeriod := by
  intro s hempty
  rw [step_of_empty s hempty]
  refine ⟨fun h => ?_, fun hr hf howed hc => ?_, fun hr hf hc => ?_⟩
  · rw [State.refclk, if_neg (s.not_ticksCome h)]
  · rw [State.refclk, if_pos (s.ticksCome_of hr hf), if_pos hc, s.settleTicks_eq howed]
  · refine ⟨Config.tickOrder s.refclkTicks, s.makeTick (Config.tickOrder s.refclkTicks) [], ?_, ?_⟩
    · rw [exec_tick, if_pos (s.ticksCome_of hr hf)]
    · rw [State.refclk, if_pos (s.ticksCome_of hr hf), if_neg (Nat.not_lt.mpr hc)]

/-- Settles O33: FREEZE settles what is owed when it is asserted, and then no tick comes. -/
theorem freezeHoldsTicksOff : Obligations.FreezeHoldsTicksOff := by
  intro s
  refine ⟨fun hf howed => ⟨?_, ?_⟩, fun hf => ⟨?_, fun order later => ?_, fun hempty => ?_, ?_⟩⟩
  · rw [exec_freezeAssert, if_neg (ne_true_of_eq_false hf), s.settleTicks_eq howed]
  · rw [exec_freezeRelease, if_neg (ne_true_of_eq_false hf)]
  · rw [exec_freezeAssert, if_pos hf]
  · rw [exec_tick, if_neg (s.not_ticksCome (.inr hf))]
  · exact (emptyQueueIsOneRefclkPeriod s hempty).1 (.inr hf)
  · rw [exec_freezeRelease, if_pos hf]

end Sys2Proof.Machine
end

section
/-! SUPPORT. The rules of the whole machine: which terms are executed (R170), what a link or a port that is not ready
does (R70, R99, R173), what stays as it is in reset, and what every command or event keeps of the queue, the sticky
events, the held requests and the in-flight entries. With these, every law together is kept by every step. -/

namespace Sys2Proof.Machine

variable {i : Instr} {s t : State}

/-! ## The terms that are executed -/

/-- Settles O6: a frame is executed as its row says, every other row answers a next state by its definition, and the
four rows with a condition refuse a term that does not meet it. -/
theorem wellFormedTermsComplete : Obligations.WellFormedTermsComplete := by
  intro i s
  constructor
  · intro hwf
    cases hb : frameBits i with
    | some bits =>
      by_cases hz : i = .zeroBitFrame
      · subst hz
        exact ⟨s, rfl⟩
      · obtain ⟨f, he, -⟩ := isFrameOf_of_frameBits hwf hb hz
        exact ⟨_, he s⟩
    | none =>
      cases i with
      | requestAccept r => exact ⟨_, exec_requestAccept_of_wf r s hwf⟩
      | issue | writeAck | readData | tick | periodEnd | halfGrant | holdLimitExpiry | drainStuck | freezeAssert
      | freezeRelease | hardReset | resetRelease | mSideCanTakeRequest | sselRemnantNegation => exact ⟨_, rfl⟩
      | _ => cases hb
  · intro hwf
    have hnot : ¬ i.wf = true := ne_true_of_eq_false hwf
    cases i with
    | shortHeaderFrame b => exact ⟨_, if_neg hnot⟩
    | parityErrorFrame h r => exact ⟨_, if_neg hnot⟩
    | unknownCommand c o r => exact ⟨_, if_neg hnot⟩
    | requestAccept r => exact ⟨_, if_neg hnot⟩
    | _ => exact absurd rfl hnot

/-! ## A link and ports that are not ready -/

/-- Settles O7: every frame is taken by the link, or not at all. -/
theorem unreadyLinkTakesNothing : Obligations.UnreadyLinkTakesNothing := by
  intro i bits s hwf hb hunready
  by_cases hz : i = .zeroBitFrame
  · rw [hz, exec_zeroBitFrame]
  · obtain ⟨f, he, -⟩ := isFrameOf_of_frameBits hwf hb hz
    rw [he, s.onFrame_untaken _ f hunready]

/-- RESET holds off a request, and so does a pool without a FREE slot (R70). -/
theorem State.accept_of_unready (s : State) (r : Request)
    (h : s.resetAsserted = true ∨ ∀ k : SlotId, s.slots[k] ≠ none) : s.accept r = s := by
  refine if_neg fun hready => ?_
  simp only [State.iSideReady, Bool.and_eq_true, Bool.not_eq_true'] at hready
  obtain ⟨hreset, hfree⟩ := hready
  rcases h with h | h
  · exact absurd h (ne_true_of_eq_false hreset)
  · obtain ⟨k, hk⟩ := Option.isSome_iff_exists.mp hfree
    exact h k ((s.freeSlot_eq_some_iff k).mp hk).1

/-- The M-side port takes no response in reset (R99). -/
theorem State.not_mSideReady (hr : s.resetAsserted = true) : ¬ s.mSideReady = true := by
  simp [State.mSideReady, hr]

/-- Settles O37. -/
theorem unreadyPortsTakeNothing : Obligations.UnreadyPortsTakeNothing := by
  intro s
  refine ⟨fun r hwf h => ?_, fun tag st beat last hr => ⟨?_, ?_⟩⟩
  · rw [exec_requestAccept_of_wf r s hwf, s.accept_of_unready r h]
  · rw [exec_writeAck, execWriteAck, if_neg (State.not_mSideReady hr)]
  · rw [exec_readData, execReadData, if_neg (State.not_mSideReady hr)]

/-! ## The bits shifted out (R167) -/

theorem ResponseHolder.shifted_length (r : ResponseHolder) (n : Nat) : (r.shifted n).length = n := by
  simp only [ResponseHolder.shifted, List.length_take, List.length_append, List.length_replicate]
  omega

/-- The bits shifted out: four of the status code, then the data, then zeros. -/
theorem ResponseHolder.shifted_getD (r : ResponseHolder) (n j : Nat) (hj : j < n) :
    (r.shifted n).getD j false = if j < 4 then r.status.code.getMsbD j else r.data.getD (j - 4) false := by
  have htake : (r.shifted n).getD j false
      = (wordBits r.status.code ++ (r.data ++ List.replicate n false)).getD j false := by
    simp only [ResponseHolder.shifted, List.append_assoc, List.getD_eq_getElem?_getD, List.getElem?_take, if_pos hj]
  rw [htake]
  split
  next hstatus =>
    have hlt : j < (wordBits r.status.code).length := by simpa using hstatus
    rw [List.getD_append _ _ _ _ hlt, List.getD_eq_getElem _ _ hlt, wordBits_getElem]
  next hstatus =>
    have hge : (wordBits r.status.code).length ≤ j := by simpa using hstatus
    rw [List.getD_append_right _ _ _ _ hge, wordBits_length]
    rcases Nat.lt_or_ge (j - 4) r.data.length with hdata | hdata
    · rw [List.getD_append _ _ _ _ hdata]
    · rw [List.getD_append_right _ _ _ _ hdata, List.getD_eq_default _ _ hdata]
      simp only [List.getD_eq_getElem?_getD, List.getElem?_replicate]
      split <;> rfl

/-- No act of a frame reaches SDO: its bits are those shifted out when the link takes the frame. -/
theorem Move.sdo_eq (h : Move i s t) {bits : Bits} (hb : frameBits i = some bits) : t.sdo = s.sdo := by
  cases h with
  | hardReset hi =>
    subst hi
    cases hb
  | _ => rfl

/-- Settles O10: SDO holds what the link shifted out when it took the frame. -/
theorem shiftedBitsAreTheHolders : Obligations.ShiftedBitsAreTheHolders := by
  refine ⟨fun i bits s hwf hb hne hr hl => ?_, rfl⟩
  have hz : i ≠ .zeroBitFrame := by
    rintro rfl
    exact hne (Option.some.inj hb).symm
  obtain ⟨f, he, hm⟩ := isFrameOf_of_frameBits hwf hb hz
  have hsdo : (f (s.shiftOut bits.length)).sdo = s.holder.shifted bits.length :=
    (hm (s.shiftOut bits.length)).keeps (P := fun u => u.sdo = s.holder.shifted bits.length)
      (fun _ _ hmove hu => (hmove.sdo_eq hb).trans hu) rfl
  refine ⟨f (s.shiftOut bits.length), ?_, ?_, fun n hn => ?_⟩
  · rw [he, s.onFrame_taken _ f hr hl]
  · rw [hsdo, ResponseHolder.shifted_length]
  · rw [hsdo, ResponseHolder.shifted_getD _ _ _ hn]

/-! ## The queue of commands -/

/-- Settles O54: no act reaches the queue. -/
theorem execLeavesTheQueue : Obligations.ExecLeavesTheQueue := by
  intro i s t h
  refine exec_keeps (P := fun u => u.pending = s.pending) (fun _ _ hu => hu) (fun u v hm hu => ?_) h rfl
  cases hm <;> exact hu

/-! ## The sticky events (R180) -/

/-- Every event that is pending in `a` is pending in `b`. -/
def StickyEvents.Within (a b : StickyEvents) : Prop :=
  (a.recordDropped = true → b.recordDropped = true)
    ∧ (a.fenceDone = true → b.fenceDone = true)
    ∧ (a.fenceStuck = true → b.fenceStuck = true)
    ∧ (a.forcedRelease = true → b.forcedRelease = true)
    ∧ (a.strayResponse = true → b.strayResponse = true)
    ∧ (a.shapeError = true → b.shapeError = true)
    ∧ (a.linkError = true → b.linkError = true)

theorem StickyEvents.Within.refl (a : StickyEvents) : a.Within a := ⟨id, id, id, id, id, id, id⟩

theorem StickyEvents.Within.raise {a b : StickyEvents} (h : a.Within b) (e : StickyEvent) : a.Within (b.raise e) := by
  obtain ⟨h1, h2, h3, h4, h5, h6, h7⟩ := h
  cases e with
  | recordDropped => exact ⟨fun _ => rfl, h2, h3, h4, h5, h6, h7⟩
  | fenceDone => exact ⟨h1, fun _ => rfl, h3, h4, h5, h6, h7⟩
  | fenceStuck => exact ⟨h1, h2, fun _ => rfl, h4, h5, h6, h7⟩
  | forcedRelease => exact ⟨h1, h2, h3, fun _ => rfl, h5, h6, h7⟩
  | strayResponse => exact ⟨h1, h2, h3, h4, fun _ => rfl, h6, h7⟩
  | shapeError => exact ⟨h1, h2, h3, h4, h5, fun _ => rfl, h7⟩
  | linkError => exact ⟨h1, h2, h3, h4, h5, h6, fun _ => rfl⟩

/-- A hand-over leaves the sticky events, or raises RECORD_DROPPED. -/
theorem State.handOver_sticky (s : State) (p : PeriodFacts) :
    (s.handOver p).sticky = s.sticky ∨ (s.handOver p).sticky = s.sticky.raise .recordDropped := by
  unfold State.handOver
  split
  · exact .inl rfl
  · exact .inr rfl

theorem Move.sticky_within (h : Move i s t) (hclear : ∀ (o : BitVec 5) (r : Bits), i ≠ .clearAlerts o r)
    (hreset : i ≠ .hardReset) {e : StickyEvents} (he : e.Within s.sticky) : e.Within t.sticky := by
  cases h with
  | raise e => exact he.raise e
  | clear named hi =>
    obtain ⟨o, r, hi⟩ := hi
    exact absurd hi (hclear o r)
  | handOver p =>
    dsimp only
    rcases s.handOver_sticky p with h | h <;> rw [h]
    · exact he
    · exact he.raise _
  | leave p e =>
    dsimp only
    cases (s.dropEntry p).drained e.cls
    · rwa [Bool.or_false]
    · rw [Bool.or_true]
      exact he.raise .fenceDone
  | hardReset hi => exact absurd hi hreset
  | _ => exact he

/-- Settles O18: an act but that of CLEAR ALERTS and the hard reset leaves the sticky events or raises one. -/
theorem stickyEventsStayPending : Obligations.StickyEventsStayPending := by
  intro i s t h hclear hreset
  exact exec_keeps (P := fun u => s.sticky.Within u.sticky) (fun _ _ hu => hu)
    (fun _ _ hm hu => hm.sticky_within hclear hreset hu) h (.refl _)

/-! ## Held requests (R67, R84, R87 to R89) -/

/-- Request `h` is still held as `g`: unchanged, with no flag cleared and no wait undone. -/
def HeldSlot.ContinuesAs (h g : HeldSlot) : Prop :=
  g.request = h.request ∧ g.cls = h.cls ∧ (h.forced = true → g.forced = true)
    ∧ (h.creditWaited = true → g.creditWaited = true) ∧ h.wait.toNat ≤ g.wait.toNat

theorem HeldSlot.ContinuesAs.refl (h : HeldSlot) : h.ContinuesAs h := ⟨rfl, rfl, id, id, Nat.le_refl _⟩

theorem HeldSlot.ContinuesAs.trans {f g h : HeldSlot} (hfg : f.ContinuesAs g) (hgh : g.ContinuesAs h) :
    f.ContinuesAs h := by
  obtain ⟨h1, h2, h3, h4, h5⟩ := hfg
  obtain ⟨g1, g2, g3, g4, g5⟩ := hgh
  exact ⟨g1.trans h1, g2.trans h2, g3 ∘ h3, g4 ∘ h4, h5.trans g5⟩

/-- Slot `k` still holds request `h`. -/
def State.StillHolds (s : State) (k : SlotId) (h : HeldSlot) : Prop :=
  ∃ g : HeldSlot, s.slots[k] = some g ∧ h.ContinuesAs g

theorem State.StillHolds.judged {k : SlotId} {h : HeldSlot} (hs : s.StillHolds k h) : s.judged.StillHolds k h := by
  obtain ⟨g, hg, hc⟩ := hs
  rcases s.judged_slot_cases k with ⟨hfree, -⟩ | ⟨g', w, hg', hw, hj⟩
  · rw [hg] at hfree
    cases hfree
  · obtain rfl : g = g' := Option.some.inj (hg.symm.trans hg')
    exact ⟨_, hj, hc.trans ⟨rfl, rfl, id, hw, Nat.le_refl _⟩⟩

theorem State.tickHeld_continues (s : State) (h : HeldSlot) : h.ContinuesAs (s.tickHeld h) := by
  rcases s.tickHeld_cases h with ⟨-, he⟩ | ⟨-, he⟩ <;> rw [he]
  · exact .refl h
  · exact ⟨rfl, rfl, fun hf => by simp [hf], id, le_satAdd _ _⟩

theorem Move.stillHolds (h : Move i s t) (hissue : ∀ b : Bool, i ≠ .issue b) (hreset : i ≠ .hardReset) {k : SlotId}
    {g : HeldSlot} (hs : s.StillHolds k g) : t.StillHolds k g := by
  cases h with
  | judge => exact hs.judged
  | accept j r hr hj =>
    obtain ⟨f, hf, hc⟩ := hs
    have hne : j.val ≠ k.val := fun hjk => by
      rw [Fin.ext hjk, hf] at hj
      cases hj
    exact ⟨f, (Vector.getElem_set_ne j.isLt k.isLt hne).trans hf, hc⟩
  | tickPool =>
    obtain ⟨f, hf, hc⟩ := hs
    refine ⟨s.tickHeld f, ?_, hc.trans (s.tickHeld_continues f)⟩
    dsimp only
    rw [tabulate_get, hf, Option.map_some]
  | issue _ _ _ _ _ _ _ hi =>
    obtain ⟨b, hi⟩ := hi
    exact absurd hi (hissue b)
  | hardReset hi => exact absurd hi hreset
  | _ => exact hs

/-- An issue leaves every other slot as it is. -/
theorem State.issueSlot_slot (s : State) (j k : SlotId) (h : HeldSlot) (m : Means) :
    (s.issueSlot j h m).slots[k] = if j = k then none else s.slots[k] := by
  rw [State.issueSlot_frame]
  simp only [State.sendOut, Fin.getElem_fin, Vector.getElem_set, Fin.ext_iff]

/-- The entry of an issued request (R97), by the kind of the request. -/
theorem HeldSlot.entry_eq (h : HeldSlot) :
    h.entry
      = { tag := h.request.tag
          cls := h.cls
          flight := if h.request.kind = .read then .read h.request.length 0 else .write } := by
  unfold HeldSlot.entry
  cases h.request.kind <;> rfl

/-- Settles O52: no act but that of ISSUE takes a request out of its slot, and ISSUE takes out the one that it hands
over; what the judgement before it makes of that request is nothing, since it is eligible. -/
theorem heldRequestsLeaveByIssueAlone : Obligations.HeldRequestsLeaveByIssueAlone := by
  intro i s t k h he hreset hk
  have hheld : s.StillHolds k h := ⟨h, hk, .refl h⟩
  by_cases hissue : ∀ b : Bool, i ≠ .issue b
  · exact .inl (exec_keeps (P := fun u => u.StillHolds k h) (fun _ _ hu => hu)
      (fun _ _ hm hu => hm.stillHolds hissue hreset hu) he hheld)
  obtain ⟨b, hi⟩ := not_forall_not.mp hissue
  subst hi
  obtain rfl : s.issue b = t := by cases he; rfl
  rcases s.issue_cases b with ⟨-, h'⟩ | ⟨hm, -, h'⟩ | ⟨hm, j, g, m, -, hj, -, -, h'⟩ <;> rw [h']
  · exact .inl hheld
  · rw [← s.judged_of hm]
    exact .inl hheld.judged
  · rw [← s.judged_of hm]
    by_cases hjk : j = k
    · subst hjk
      obtain rfl : h = g := Option.some.inj (hk.symm.trans hj)
      refine .inr ⟨⟨b, rfl⟩, State.judged_slot_none ?_, ?_, ?_⟩
      · dsimp only
        rw [State.issueSlot_slot, if_pos rfl]
      · rw [State.judged_mSideOut, State.issueSlot_frame]
        rfl
      · rw [State.judged_inFlight, State.issueSlot_frame]
        show s.judged.inFlight ++ [h.entry] = _
        rw [State.judged_inFlight, HeldSlot.entry_eq]
    · refine .inl (State.StillHolds.judged ?_)
      obtain ⟨f, hf, hc⟩ := hheld.judged
      refine ⟨f, ?_, hc⟩
      dsimp only
      rw [State.issueSlot_slot, if_neg hjk, hf]

/-! ## The entries of a class that is not UNFENCED (R114) -/

/-- How many in-flight entries name a class. -/
def State.entryCount (s : State) (c : ClassId) : Nat := s.inFlight.countP fun e => e.cls == c

theorem State.entryCount_countBeat {p : Entry → Bool} {e : Entry} (h : s.inFlight.find? p = some e) (c : ClassId) :
    (s.countBeat p).entryCount c = s.entryCount c := by
  obtain ⟨older, younger, hmatch⟩ := State.exists_oldestMatch h
  have hcls : e.oneMore.cls = e.cls := by
    unfold Entry.oneMore
    cases e.flight <;> rfl
  rw [hmatch.countBeat_eq, State.entryCount, State.entryCount, hmatch.order]
  simp only [List.countP_append, List.countP_cons, hcls]

theorem Move.entryCount_le (h : Move i s t) (hissue : ∀ b : Bool, i ≠ .issue b) (c : ClassId) :
    t.entryCount c ≤ s.entryCount c := by
  cases h with
  | leave p => exact (s.dropEntry_sublist p).countP_le
  | beat p e h => exact (State.entryCount_countBeat h c).le
  | issue _ _ _ _ _ _ _ hi =>
    obtain ⟨b, hi⟩ := hi
    exact absurd hi (hissue b)
  | hardReset => exact Nat.zero_le _
  | _ => exact Nat.le_refl _

/-- Settles O49: an issue alone adds an entry, and of an UNFENCED class. -/
theorem fencedClassGainsNoEntry : Obligations.FencedClassGainsNoEntry := by
  intro i s t c he hfence
  show t.entryCount c ≤ s.entryCount c
  by_cases hissue : ∀ b : Bool, i ≠ .issue b
  · exact exec_keeps (P := fun u => u.entryCount c ≤ s.entryCount c) (fun _ _ hu => hu)
      (fun _ _ hm hu => (hm.entryCount_le hissue c).trans hu) he (Nat.le_refl _)
  obtain ⟨b, hi⟩ := not_forall_not.mp hissue
  subst hi
  obtain rfl : s.issue b = t := by cases he; rfl
  rcases s.issue_cases b with ⟨-, h⟩ | ⟨-, -, h⟩ | ⟨-, k, g, m, -, hk, hel, -, h⟩ <;> rw [h]
  · exact Nat.le_refl _
  · exact Nat.le_refl _
  · obtain ⟨g', -, hg', -, hf, -⟩ := s.eligible_held k hel
    obtain rfl : g = g' := Option.some.inj (hk.symm.trans hg')
    have hne : ¬ g.cls = c := fun hc => hfence (hc ▸ (s.fenceHolds_iff g).mp hf)
    rw [State.entryCount, State.judged_inFlight, State.issueSlot_frame]
    show (s.inFlight ++ [g.entry]).countP (fun e => e.cls == c) ≤ _
    have hentry : (g.entry.cls == c) = false := beq_eq_false_iff_ne.mpr hne
    rw [List.countP_append, List.countP_singleton, hentry]
    exact Nat.le_refl _

/-! ## Frames and the memory path (R108, R112) -/

/-- What a held request is, but for its credit-waited flag. -/
def HeldSlot.packet (h : HeldSlot) : Request × ClassId × BitVec 8 × Bool := (h.request, h.cls, h.wait, h.forced)

/-- The memory path of `t` is that of `s`. -/
def State.SamePath (s t : State) : Prop :=
  t.arrival = s.arrival ∧ t.inFlight = s.inFlight ∧ t.mSideOut = s.mSideOut ∧ t.iSideOut = s.iSideOut
    ∧ t.controllerReady = s.controllerReady
    ∧ ∀ k : SlotId, (t.slots[k]).map HeldSlot.packet = (s.slots[k]).map HeldSlot.packet

theorem State.judged_slot_packet (s : State) (k : SlotId) :
    (s.judged.slots[k]).map HeldSlot.packet = (s.slots[k]).map HeldSlot.packet := by
  rcases s.judged_slot_cases k with ⟨h, hj⟩ | ⟨g, w, h, -, hj⟩ <;> rw [h, hj]
  rfl

theorem Move.samePath (h : Move i s t) {bits : Bits} (hb : frameBits i = some bits) {u : State}
    (hs : u.SamePath s) : u.SamePath t := by
  have hframe : frameBits i ≠ none := by rw [hb]; exact Option.some_ne_none _
  cases h with
  | judge =>
    obtain ⟨h1, h2, h3, h4, h5, h6⟩ := hs
    exact ⟨h1, h2, h3, h4, h5, fun k => (s.judged_slot_packet k).trans (h6 k)⟩
  | accept _ _ _ _ hi => exact absurd hi hframe
  | pass _ hi => exact absurd hi hframe
  | leave _ _ _ hi => exact absurd hi hframe
  | beat _ _ _ _ hi => exact absurd hi hframe
  | tickPool hi => exact absurd hi hframe
  | setReady _ hi => exact absurd hi hframe
  | issue _ _ _ _ _ _ _ hi =>
    obtain ⟨b, rfl⟩ := hi
    cases hb
  | hardReset hi =>
    subst hi
    cases hb
  | _ => exact hs

/-- Settles O53: the acts on the memory path belong to no frame, and a judgement changes credit-waited flags alone. -/
theorem framesLeaveTheMemoryPathAlone : Obligations.FramesLeaveTheMemoryPathAlone := by
  intro i bits s t hb h
  exact exec_keeps (P := fun u => s.SamePath u) (fun _ _ hu => hu) (fun _ _ hm hu => hm.samePath hb hu) h
    ⟨rfl, rfl, rfl, rfl, rfl, fun _ => rfl⟩

/-! ## Reset (R23 and its neighbours) -/

theorem State.not_mSideCanTake (hr : s.resetAsserted = true) : ¬ s.mSideCanTake = true := by
  simp [State.mSideCanTake, hr]

theorem State.judged_of_reset (hr : s.resetAsserted = true) : s.judged = s :=
  s.judged_of_not (Bool.eq_false_iff.mpr (State.not_mSideCanTake hr))

/-- In reset no tick is owed. -/
theorem State.ResetSound.owedTicks_eq (hs : s.ResetSound) (hr : s.resetAsserted = true) : s.owedTicks = [] :=
  congrArg State.owedTicks (hs hr)

/-- In reset the tick count stands at 0. -/
theorem State.ResetSound.count_eq (hs : s.ResetSound) (hr : s.resetAsserted = true) : s.count = 0 :=
  congrArg State.count (hs hr)

/-- The hard-reset values are those that a state in reset holds, but for the pins. -/
theorem State.ResetSound.hardReset_eq (hs : s.ResetSound) (hr : s.resetAsserted = true) :
    s.hardReset = { s with controllerReady := false } := by
  have hreset := hs hr
  unfold State.hardReset
  rw [← hreset, ← hr]

theorem exec_sselRemnantNegation (s : State) :
    exec .sselRemnantNegation s = .next (if s.resetAsserted then s else { s with receiver := .ready }) := rfl

theorem exec_resetRelease (b : Bool) (s : State) :
    exec (.resetRelease b) s
      = .next
          (if s.resetAsserted then
            ({ s with
                resetAsserted := false
                count := 0
                receiver := if b then .awaitingNegation else .ready } : State).judged
          else s) := rfl

/-- Settles O51: no frame is taken and no port is ready; no tick comes and none is owed, so none is settled; and a hard
reset finds its values in place. -/
theorem resetHoldsEveryBlock : Obligations.ResetHoldsEveryBlock := by
  intro i s t hr hs hrelease h
  have howed : s.owedTicks = [] := hs.owedTicks_eq hr
  have hnone (u : TickTaker) : u ∉ s.owedTicks := howed ▸ List.not_mem_nil
  obtain ⟨hrecord, hpool, hmonitor⟩ := tickEventsNotDueChangeNothing s
  have hsame (hst : t = s) : t = { s with freeze := t.freeze, controllerReady := t.controllerReady } := by
    rw [hst]
  have hnext {u : State} (hu : exec i s = .next u) : t = u := by
    rw [hu] at h
    cases h
    rfl
  cases hb : frameBits i with
  | some bits => exact hsame (hnext (unreadyLinkTakesNothing i bits s (wf_of_exec h) hb (.inl hr)))
  | none =>
    cases i with
    | requestAccept r => exact hsame (hnext ((unreadyPortsTakeNothing s).1 r (wf_of_exec h) (.inl hr)))
    | issue b =>
      rcases s.issue_cases b with ⟨-, he⟩ | ⟨hm, -⟩ | ⟨hm, -⟩
      · obtain rfl : t = s.issue b := hnext rfl
        rw [he]
      · exact absurd hm (State.not_mSideCanTake hr)
      · exact absurd hm (State.not_mSideCanTake hr)
    | writeAck tag st last => exact hsame (hnext ((unreadyPortsTakeNothing s).2 tag st 0 last hr).1)
    | readData tag st beat last => exact hsame (hnext ((unreadyPortsTakeNothing s).2 tag st beat last hr).2)
    | tick order later =>
      exact hsame (hnext (by rw [exec_tick, if_neg (s.not_ticksCome (.inl hr))]))
    | periodEnd c => exact hsame (hnext ((hrecord c).1 (.inl (hnone _))))
    | halfGrant c => exact hsame (hnext ((hrecord c).2 (.inl (hnone _))))
    | holdLimitExpiry k => exact hsame (hnext ((hpool k).1 (.inl (hnone _))))
    | drainStuck c => exact hsame (hnext (hmonitor c (.inl (hnone _))))
    | freezeAssert =>
      rw [exec_freezeAssert, s.settleTicks_of_none howed] at h
      split at h <;> obtain rfl := Host.Outcome.next.inj h
      · rfl
      · rw [hs.count_eq hr]
    | freezeRelease =>
      rw [exec_freezeRelease] at h
      split at h <;> obtain rfl := Host.Outcome.next.inj h
      · rw [hs.count_eq hr]
      · rfl
    | hardReset =>
      obtain rfl := hnext (exec_hardReset s)
      rw [hs.hardReset_eq hr]
    | resetRelease b => exact absurd rfl (hrelease b)
    | mSideCanTakeRequest =>
      have hready : ({ s with controllerReady := true } : State).judged = { s with controllerReady := true } :=
        State.judged_of_reset hr
      obtain rfl : t = ({ s with controllerReady := true } : State).judged := hnext rfl
      rw [hready]
    | sselRemnantNegation =>
      exact hsame (hnext (by rw [exec_sselRemnantNegation, if_pos hr]))
    | _ => cases hb

/-- No act but a hard reset asserts RESET. -/
theorem Move.resetAsserted_eq (h : Move i s t) (hi : i ≠ .hardReset) (hs : s.resetAsserted = false) :
    t.resetAsserted = false := by
  cases h with
  | release => rfl
  | hardReset hreset => exact absurd hreset hi
  | _ => exact hs

/-- The law of a state whose RESET is negated asks nothing. -/
theorem State.resetSound_of_negated (h : s.resetAsserted = false) : s.ResetSound :=
  fun hr => absurd hr (ne_true_of_eq_false h)

/-- A change of the pins alone keeps the law of reset. -/
theorem State.ResetSound.pins (hs : s.ResetSound) (hr : s.resetAsserted = true)
    (ht : t = { s with freeze := t.freeze, controllerReady := t.controllerReady }) : t.ResetSound := by
  intro _
  rw [ht]
  exact hs hr

theorem exec_keeps_resetSound (h : exec i s = .next t) (hs : s.ResetSound) : t.ResetSound := by
  by_cases hi : i = .hardReset
  · subst hi
    cases h
    exact fun _ => rfl
  cases hr : s.resetAsserted with
  | false =>
    exact State.resetSound_of_negated
      (exec_keeps (P := fun u => u.resetAsserted = false) (fun _ _ hu => hu)
        (fun _ _ hm hu => hm.resetAsserted_eq hi hu) h hr)
  | true =>
    by_cases hrelease : ∀ b : Bool, i ≠ .resetRelease b
    · exact hs.pins hr (resetHoldsEveryBlock i s t hr hs hrelease h)
    · obtain ⟨b, hb⟩ := not_forall_not.mp hrelease
      subst hb
      rw [exec_resetRelease, if_pos hr] at h
      cases h
      exact State.resetSound_of_negated (State.judged_resetAsserted _)

/-- A REFCLK period in reset changes nothing, and out of reset leaves RESET negated. -/
theorem State.refclk_resetSound (hs : s.ResetSound) : s.refclk.ResetSound := by
  cases hr : s.resetAsserted with
  | false =>
    exact State.resetSound_of_negated
      ((moves_refclk s).keeps (P := fun u => u.resetAsserted = false)
        (fun u v (hm : Move (.tick [] []) u v) hu => hm.resetAsserted_eq nofun hu) hr)
  | true =>
    rw [State.refclk, if_neg (s.not_ticksCome (.inl hr))]
    exact hs

theorem step_keeps_resetSound (h : step s = .next t) (hs : s.ResetSound) : t.ResetSound := by
  unfold step at h
  split at h
  next =>
    cases h
    exact State.refclk_resetSound hs
  next => exact exec_keeps_resetSound h hs

/-! ## Every law together -/

/-- The laws that single acts keep: all but that of reset. -/
structure State.Lawful (s : State) : Prop where
  classes : s.ClassesSound
  lending : s.LendingSound
  map : s.MapSound
  pool : s.PoolSound
  flight : s.FlightSound
  fences : s.FencesSound
  queue : s.QueueSound
  settings : s.SettingsSound
  holder : s.HolderSound
  freeze : s.FreezeSound
  owed : s.OwedSound

theorem State.sound_iff (s : State) : s.Sound ↔ s.Lawful ∧ s.ResetSound :=
  ⟨fun h => ⟨{ h with }, h.reset⟩, fun ⟨h, hr⟩ => { h with reset := hr }⟩

theorem Move.keeps_lawful (h : Move i s t) (hs : s.Lawful) : t.Lawful where
  classes := h.keeps_classesSound hs.pool hs.classes
  lending := h.keeps_lendingSound hs.lending
  map := h.keeps_mapSound hs.map
  pool := h.keeps_poolSound hs.pool
  flight := h.keeps_flightSound hs.pool hs.flight
  fences := h.keeps_fencesSound hs.fences
  queue := h.keeps_queueSound hs.queue
  settings := h.keeps_settingsSound hs.settings
  holder := h.keeps_holderSound hs.holder
  freeze := h.keeps_freezeSound hs.freeze
  owed := h.keeps_owedSound hs.owed

theorem State.Lawful.shiftOut (hs : s.Lawful) (n : Nat) : (s.shiftOut n).Lawful := { hs with }

theorem State.Lawful.setPending (hs : s.Lawful) (l : List Instr) : ({ s with pending := l } : State).Lawful :=
  { hs with }

/-- Settles O60: each act keeps the law of its block, and the law of reset holds since nothing but the pins moves in
reset. -/
theorem soundKeptByEveryStep : Obligations.SoundKeptByEveryStep := by
  intro s t hs h
  rw [State.sound_iff] at hs ⊢
  obtain ⟨hlaws, hreset⟩ := hs
  exact ⟨step_keeps (fun _ n hu => hu.shiftOut n) (fun _ l hu => hu.setPending l) (fun _ _ _ => Move.keeps_lawful) h
    hlaws, step_keeps_resetSound h hreset⟩

end Sys2Proof.Machine
end

section
/-! SUPPORT. The remaining commands of the service link, the pins and the queue (R60, R61, R121, R149, R164, R165, R168,
R170, R172, R173): what a taken frame of each row leaves, and the obligations on them. -/

namespace Sys2Proof.Machine

variable (s : State) (o : BitVec 5) (r : Bits)

/-! ## The queue of commands -/

theorem step_of_cons {s : State} {c : Instr} {rest : List Instr} (h : s.pending = c :: rest) :
    step s = exec c { s with pending := rest } := by
  simp only [step, h]

/-- Settles O1: a word puts the command it spells in front of the queue that a step then leaves. -/
theorem stepRunsFrontCommand : Obligations.StepRunsFrontCommand := by
  refine ⟨fun s c rest h => step_of_cons h, fun s nbits w c h => ?_⟩
  have hfetch : s.withFetchWord nbits w = { s with pending := c :: s.pending } := by
    rw [State.withFetchWord, h]
  rw [hfetch]
  exact step_of_cons rfl

/-! ## SHORT and RANGE (R164, R165) -/

/-- A row with a payload is refused with SHORT while the payload is not complete. -/
theorem exec_short {s : State} {r : Bits} {i : Instr} {need : Nat} {f : State → State}
    (he : exec i s = .next (s.onPayload need r f)) (hr : s.resetAsserted = false) (hl : s.receiver = .ready)
    (hn : r.length < need) :
    exec i s
      = .next { s.answered (12 + r.length) .short [] with sticky := { s.sticky with linkError := true } } := by
  rw [he, s.onPayload_short need r f hr hl hn, State.refuseShort_shiftOut]

/-- A row on a class is refused with RANGE where its operand names none. -/
theorem exec_classRange {s : State} {o : BitVec 5} {r : Bits} {i : Instr} {f : ClassId → State → State}
    (he : exec i s = .next (s.onCommand r fun u => u.onClass o f)) (hr : s.resetAsserted = false)
    (hl : s.receiver = .ready) (ho : 8 ≤ o.toNat) : exec i s = .next (s.answered (12 + r.length) .range []) := by
  rw [he, s.onCommand_onClass_range o r f hr hl ho]

theorem refuseRange_shiftOut (n : Nat) : (s.shiftOut n).refuseRange = s.answered n .range [] := rfl

/-- A complete descriptor is refused with RANGE where the operand names no class, whatever the payload. -/
theorem exec_stageDescriptor_range (hr : s.resetAsserted = false) (hl : s.receiver = .ready) (ho : 8 ≤ o.toNat)
    (hn : 82 ≤ r.length) : exec (.stageDescriptor o r) s = .next (s.answered (12 + r.length) .range []) := by
  rw [exec_stageDescriptor, execStageDescriptor, s.onPayload_whole descriptorLength r _ hr hl hn]
  split
  · rw [refuseRange_shiftOut]
  · rw [State.onClass_range _ o _ ho, refuseRange_shiftOut]

theorem exec_writeMapEntry : exec (.writeMapEntry o r) s = execWriteMapEntry o r s := rfl

theorem exec_readMapEntry :
    exec (.readMapEntry o r) s
      = .next (s.onCommand r fun u => u.onEntry o fun j u => u.load .done u.map[j].bits) := rfl

/-- A complete map entry is refused with RANGE where the operand names no entry, whatever the payload. -/
theorem exec_writeMapEntry_range (hr : s.resetAsserted = false) (hl : s.receiver = .ready) (ho : 16 ≤ o.toNat)
    (hn : 74 ≤ r.length) : exec (.writeMapEntry o r) s = .next (s.answered (12 + r.length) .range []) := by
  rw [exec_writeMapEntry, execWriteMapEntry, s.onPayload_whole mapEntryLength r _ hr hl hn]
  split
  · rw [refuseRange_shiftOut]
  · rw [State.onEntry_range _ o _ ho, refuseRange_shiftOut]

/-- Settles O8, row by row. -/
theorem incompleteAndOutOfRangeFramesRefused : Obligations.IncompleteAndOutOfRangeFramesRefused := by
  intro s o r hr hl short range
  refine ⟨exec_short rfl hr hl, exec_short rfl hr hl, exec_short rfl hr hl, exec_short rfl hr hl, exec_short rfl hr hl,
    exec_short rfl hr hl, exec_short rfl hr hl, fun ho => ?classRows, fun ho => ?entryRows⟩
  case classRows =>
    exact ⟨exec_classRange rfl hr hl ho, exec_classRange rfl hr hl ho, exec_classRange rfl hr hl ho,
      exec_classRange rfl hr hl ho, exec_classRange rfl hr hl ho, exec_classRange rfl hr hl ho,
      exec_stageDescriptor_range s o r hr hl ho⟩
  case entryRows =>
    refine ⟨?_, exec_writeMapEntry_range s o r hr hl ho⟩
    rw [exec_readMapEntry, s.onCommand_taken r _ hr hl, State.onEntry_range _ o _ ho, refuseRange_shiftOut]

/-! ## The reads (R168) -/

/-- Settles O9: the shifting out of the previous result reaches nothing that the response bits show. -/
theorem readsCaptureAndChangeNothing : Obligations.ReadsCaptureAndChangeNothing := by
  intro s o r hr hl answer
  refine ⟨?device, fun k hk => ?slot, fun c hc => ⟨?status, ?active, ?staged⟩, fun j hj => ?entry⟩
  case device =>
    have he : exec (.readDeviceStatus o r) s = .next (s.onCommand r fun u => u.load .done u.deviceStatusBits) := rfl
    rw [he, s.onCommand_taken r _ hr hl]
    rfl
  case slot =>
    have he : exec (.readSlot o r) s
        = .next (s.onCommand r fun u => u.load .done (u.slotBits (slotOperand o))) := rfl
    rw [he, s.onCommand_taken r _ hr hl, slotOperand_of o k hk]
    rfl
  case status =>
    have he : exec (.readClassStatus o r) s
        = .next (s.onCommand r fun u => u.onClass o fun c u => u.load .done (u.classStatusBits c)) := rfl
    rw [he, s.onCommand_onClass_of o r c _ hr hl hc]
    rfl
  case active =>
    have he : exec (.readActiveDescriptor o r) s
        = .next (s.onCommand r fun u => u.onClass o fun c u => u.load .done u.classes[c].active.bits) := rfl
    rw [he, s.onCommand_onClass_of o r c _ hr hl hc]
    rfl
  case staged =>
    have he : exec (.readStagedDescriptor o r) s
        = .next (s.onCommand r fun u => u.onClass o fun c u => u.load .done u.classes[c].staged.bits) := rfl
    rw [he, s.onCommand_onClass_of o r c _ hr hl hc]
    rfl
  case entry =>
    rw [exec_readMapEntry, s.onCommand_taken r _ hr hl, State.onEntry_of _ o j _ hj]
    rfl

theorem exec_readRecord :
    exec (.readRecord o r) s
      = .next
          (s.onCommand r fun u =>
            match u.records with
            | [] => u.load .queueEmpty []
            | p :: _ => u.load .done p.bits) := rfl

/-- Settles O24: the queue is empty, or its oldest record is shown. -/
theorem readRecordShowsTheOldest : Obligations.ReadRecordShowsTheOldest := by
  intro s o r hr hl
  rw [exec_readRecord, s.onCommand_taken r _ hr hl, State.shiftOut_records]
  refine ⟨fun hempty => ?_, fun p younger holdest => ?_⟩
  · rw [hempty]
    rfl
  · rw [holdest]
    rfl

/-! ## CLEAR REGULATION and UNFENCE -/

/-- Settles O16. -/
theorem clearRegulationKeepsRequests : Obligations.ClearRegulationKeepsRequests := by
  intro s o r hr hl
  have he : exec (.clearRegulation o r) s = .next (s.onCommand r fun u => u.clearRegulation.judged.answerDone) := rfl
  rw [he, s.onCommand_taken r _ hr hl, State.answerDone, State.load_judged]
  rfl

/-- Settles O48. -/
theorem unfenceFreesTheNamedClasses : Obligations.UnfenceFreesTheNamedClasses := by
  intro s o r hr hl hn
  have he : exec (.unfence o r) s
      = .next (s.onPayload setLength r fun u => (u.unfenceSet r).judged.answerDone) := rfl
  rw [he, s.onPayload_whole setLength r _ hr hl hn, State.answerDone, State.load_judged]
  rfl

/-! ## WRITE MAP ENTRY (R60, R61) -/

theorem filterOfCode_eq : ∀ code : BitVec 2,
    filterOfCode code = if code = 3 then none else some (if code = 0 then .both else if code = 1 then .read else .write) := by
  decide

theorem classOfBits_eq : ∀ code : BitVec 3, classOfBits code = Fin.ofNat 8 code.toNat := by decide

/-- The map entry that a payload in range spells (R188). -/
def mapEntryOf (bs : Bits) : MapEntry :=
  { valid := bs.getD 0 false
    base := bitField bs 1 28
    limit := bitField bs 29 28
    tagMatch := bitField bs 57 6
    tagMask := bitField bs 63 6
    filter := if bitField bs 69 2 = 0 then .both else if bitField bs 69 2 = 1 then .read else .write
    cls := Fin.ofNat 8 (bitField bs 71 3).toNat }

/-- A payload with an assigned kind filter and a well-formed range is read as the entry it spells. -/
theorem parseMapEntry_of_inRange (bs : Bits) (hfilter : bitField bs 69 2 ≠ 3)
    (hrange : (bitField bs 1 28).toNat ≤ (bitField bs 29 28).toNat) : parseMapEntry bs = some (mapEntryOf bs) := by
  rw [parseMapEntry, filterOfCode_eq, if_neg hfilter]
  dsimp only
  rw [if_pos hrange, classOfBits_eq]
  rfl

/-- Any other payload is not read. -/
theorem parseMapEntry_of_not_inRange (bs : Bits)
    (h : bitField bs 69 2 = 3 ∨ (bitField bs 29 28).toNat < (bitField bs 1 28).toNat) : parseMapEntry bs = none := by
  rw [parseMapEntry, filterOfCode_eq]
  by_cases hfilter : bitField bs 69 2 = 3
  · rw [if_pos hfilter]
  · rw [if_neg hfilter]
    dsimp only
    rw [if_neg (Nat.not_le.mpr (h.resolve_left hfilter))]

/-- Settles O35: a complete payload is in range or not, and the entry it spells replaces the named one. -/
theorem writeMapEntryReplacesTheEntry : Obligations.WriteMapEntryReplacesTheEntry := by
  intro s o r j hr hl hn ho
  rw [exec_writeMapEntry, execWriteMapEntry, s.onPayload_whole mapEntryLength r _ hr hl hn]
  refine ⟨fun h => ?_, fun hfilter hrange => ?_⟩
  · rw [parseMapEntry_of_not_inRange r h]
    rfl
  · rw [parseMapEntry_of_inRange r hfilter hrange]
    dsimp only
    rw [State.onEntry_of _ o j _ ho]
    rfl

/-! ## The RESET pin and the remnant (R91, R173) -/

/-- Settles O50: the hard-reset values are those of the state after reset, and the release and the end of a remnant act
at one level of RESET alone. -/
theorem resetPinAndRemnant : Obligations.ResetPinAndRemnant := by
  intro s descriptor inReset
  refine ⟨rfl, rfl, fun b hr => ?_, fun b hr => ?_, fun hr => ?_, fun hr => ?_⟩
  · rw [exec_resetRelease, if_pos hr]
  · rw [exec_resetRelease, if_neg (ne_true_of_eq_false hr)]
  · rw [exec_sselRemnantNegation, if_neg (ne_true_of_eq_false hr)]
  · rw [exec_sselRemnantNegation, if_pos hr]

end Sys2Proof.Machine
end

section
/-! SUPPORT. Judgement and issue (R74, R79, R92, R95, R96, R129): what a judgement makes of a slot, what an issue makes of
class records, tallies and digests, class by class, and the obligations on them. -/

namespace Sys2Proof.Machine

variable (s : State) (k : SlotId) (h : HeldSlot)

/-! ## Judgement -/

/-- The reason CREDIT, by the first condition that fails (R80). -/
theorem State.holdReason_beq_credit :
    (s.holdReason k h == .credit) = (s.orderHolds k h && s.fenceHolds h && (s.creditMeans h).isNone) := by
  unfold State.holdReason
  cases s.orderHolds k h
  · rfl
  cases s.fenceHolds h
  · rfl
  cases s.creditMeans h
  · rfl
  cases s.spaceHolds <;> rfl

/-- The M-side can take a request while the controller is ready and RESET is negated (R69). -/
theorem State.mSideCanTake_of {s : State} (hc : s.controllerReady = true) (hr : s.resetAsserted = false) :
    s.mSideCanTake = true := by
  rw [State.mSideCanTake, hc, hr]
  rfl

theorem State.not_mSideCanTake_of {s : State} (h : s.controllerReady = false ∨ s.resetAsserted = true) :
    s.mSideCanTake = false := by
  rcases h with h | h <;> simp [State.mSideCanTake, h]

/-- Settles O38. -/
theorem judgementSetsCreditWaited : Obligations.JudgementSetsCreditWaited := by
  intro s
  refine ⟨rfl, fun h => s.judged_of_not (State.not_mSideCanTake_of h), s.judged_frame,
    fun k => ⟨State.judged_slot_none, fun h hk hc hr => ?_⟩⟩
  rw [State.judged_slot, hk, Option.map_some, if_pos (State.mSideCanTake_of hc hr), State.judgeSlot_eq,
    State.holdReason_beq_credit]

/-! ## No issue -/

theorem exec_issue (b : Bool) : exec (.issue b) s = .next (s.issue b) := rfl

/-- Settles O43: the outcomes of ISSUE without one. -/
theorem noIssueWithoutReadinessOrEligibility : Obligations.NoIssueWithoutReadinessOrEligibility := by
  intro s b
  rw [exec_issue]
  rcases s.issue_cases b with ⟨hm, he⟩ | ⟨hm, hnone, he⟩ | ⟨hm, k, -, -, hsome, -⟩
  · rw [he, s.judged_of_not hm]
    exact ⟨fun _ => rfl, fun _ => rfl⟩
  · refine ⟨fun h => absurd hm (ne_true_of_eq_false (State.not_mSideCanTake_of h)), fun _ => ?_⟩
    have hc : s.controllerReady = true := by
      rw [State.mSideCanTake, Bool.and_eq_true] at hm
      exact hm.1
    rw [he, s.judged_of hm, hc, Bool.true_and]
  · refine ⟨fun h => absurd hm (ne_true_of_eq_false (State.not_mSideCanTake_of h)), fun hnone => ?_⟩
    rw [hsome] at hnone
    cases hnone

/-! ## What an issue makes of each class -/

variable (m : Means) (c : ClassId)

/-- The tally of a class after the issue of request `h` by means `m`, count by count (R96). -/
def State.tallyAfterIssue : Tally :=
  let running : Bool := s.classes[h.cls].isRunning
  let own : Bool := running && c == h.cls
  let n := h.request.length
  let t := s.tallies[c]
  { readBeats := if own && h.request.kind == .read then satAdd t.readBeats n else t.readBeats
    writeBeats := if own && h.request.kind == .write then satAdd t.writeBeats n else t.writeBeats
    lentBeats := if running && m == .lent c then satAdd t.lentBeats n else t.lentBeats
    borrowedBeats := if own && m.isLent then satAdd t.borrowedBeats n else t.borrowedBeats
    forcedReleases := if own && h.forced then satAdd t.forcedReleases 1 else t.forcedReleases
    creditWaits := if own && h.creditWaited then satAdd t.creditWaits 1 else t.creditWaits
    faults := t.faults }

/-- The count of a lender raises its lent beats. -/
theorem State.countLent_get :
    (s.countLent h m).tallies[c]
      = { s.tallies[c] with
          lentBeats :=
            if m = .lent c then satAdd s.tallies[c].lentBeats h.request.length else s.tallies[c].lentBeats } := by
  cases m with
  | lent l =>
    simp only [State.countLent, State.updateTally_get, Means.lent.injEq]
    by_cases hl : l = c
    · subst hl
      simp only [if_true]
    · simp only [hl, if_false]
  | free | forced | own => rfl

theorem State.countIssue_get : (s.countIssue h m).tallies[c] = s.tallyAfterIssue h m c := by
  unfold State.countIssue State.tallyAfterIssue
  cases s.classes[h.cls].isRunning with
  | false => rfl
  | true =>
    rw [if_pos rfl, State.countLent_get, State.updateTally_get]
    by_cases hc : h.cls = c
    · subst hc
      simp [Tally.countIssue]
    · simp [hc, Ne.symm hc]

theorem State.foldIssue_get :
    (s.foldIssue h).digests[c]
      = if c = h.cls ∧ h.request.kind = .write ∧ s.classes[h.cls].isRunning ∧ s.classes[c].active.signing then
          (foldWords h.request).foldl foldDigest s.digests[c]
        else s.digests[c] := by
  unfold State.foldIssue
  by_cases hfolds : h.request.kind = .write ∧ s.classes[h.cls].isRunning ∧ s.classes[h.cls].active.signing
  · rw [if_pos hfolds]
    by_cases hc : c = h.cls
    · subst hc
      rw [if_pos ⟨rfl, hfolds⟩]
      exact Vector.getElem_set_self _
    · rw [if_neg fun hall => hc hall.1]
      exact Vector.getElem_set_ne h.cls.isLt c.isLt fun hne => hc (Fin.ext hne).symm
  · rw [if_neg hfolds, if_neg]
    rintro ⟨rfl, hall⟩
    exact hfolds hall

/-! ## The issue event -/

/-- An issue, written out class by class. -/
theorem State.issueSlot_eq :
    s.issueSlot k h m
      = { s.sendOut k h with
          classes := tabulate fun c =>
            { s.classes[c] with
              credit :=
                if (m = .own ∧ c = h.cls) ∨ m = .lent c then s.classes[c].credit - h.request.length
                else s.classes[c].credit }
          tallies := tabulate (s.tallyAfterIssue h m)
          digests := tabulate fun c =>
            if c = h.cls ∧ h.request.kind = .write ∧ s.classes[h.cls].isRunning ∧ s.classes[c].active.signing then
              (foldWords h.request).foldl foldDigest s.digests[c]
            else s.digests[c] } := by
  let charged : State := (s.sendOut k h).charge h m
  let counted : State := charged.countIssue h m
  have hcharged : charged = { s.sendOut k h with classes := charged.classes } := State.charge_frame _ h m
  have hcounted : counted = { charged with tallies := counted.tallies } := State.countIssue_frame charged h m
  have hclass (d : ClassId) : charged.classes[d].isRunning = s.classes[d].isRunning
      ∧ charged.classes[d].active = s.classes[d].active := by
    rw [State.charge_get]
    exact ⟨rfl, rfl⟩
  have hclasses : (s.charge h m).classes = tabulate fun c =>
      { s.classes[c] with
        credit :=
          if (m = .own ∧ c = h.cls) ∨ m = .lent c then s.classes[c].credit - h.request.length
          else s.classes[c].credit } :=
    (tabulate_eq _).symm.trans (congrArg tabulate (funext (s.charge_get h m)))
  have htallies : (s.issueSlot k h m).tallies = tabulate (s.tallyAfterIssue h m) := by
    rw [State.issueSlot, State.foldIssue_frame]
    refine (tabulate_eq _).symm.trans (congrArg tabulate (funext fun c => ?_))
    have htally : charged.tallies = s.tallies := by rw [hcharged]; rfl
    refine (charged.countIssue_get h m c).trans ?_
    rw [State.tallyAfterIssue, State.tallyAfterIssue, (hclass _).1, htally]
  have hdigests : (s.issueSlot k h m).digests = tabulate fun c =>
      if c = h.cls ∧ h.request.kind = .write ∧ s.classes[h.cls].isRunning ∧ s.classes[c].active.signing then
        (foldWords h.request).foldl foldDigest s.digests[c]
      else s.digests[c] := by
    refine (tabulate_eq _).symm.trans (congrArg tabulate (funext fun c => ?_))
    have hdigest : counted.digests = s.digests := by rw [hcounted, hcharged]; rfl
    have hcls : counted.classes = charged.classes := by rw [hcounted]
    refine (counted.foldIssue_get h c).trans ?_
    rw [hdigest, hcls, (hclass _).1, (hclass _).2]
  rw [State.issueSlot_frame, hclasses, htallies, hdigests]

/-- Settles O42. -/
theorem issueIsOneEvent : Obligations.IssueIsOneEvent := by
  intro s b k h m hr hready hchoice hk hm n add running counted charged folded
  have hcan : s.mSideCanTake = true := State.mSideCanTake_of hready hr
  rcases s.issue_cases b with ⟨hnot, -⟩ | ⟨-, hnone, -⟩ | ⟨-, j, g, m', hj, hg, -, hm', he⟩
  · rw [hcan] at hnot
    cases hnot
  · rw [hchoice] at hnone
    cases hnone
  · obtain rfl : k = j := Option.some.inj (hchoice.symm.trans hj)
    obtain rfl : h = g := Option.some.inj (hk.symm.trans hg)
    obtain rfl : m = m' := Option.some.inj (hm.symm.trans hm')
    have htally (c : ClassId) : s.judged.tallyAfterIssue h m c = counted c := by
      rw [State.tallyAfterIssue, State.judged_classes, State.judged_tallies]
      rfl
    rw [exec_issue, he, ← s.judged_of hcan, State.issueSlot_eq, funext htally, State.judged_classes,
      State.judged_digests, State.sendOut, State.judged_arrival, State.judged_inFlight, HeldSlot.entry_eq]
    rfl

end Sys2Proof.Machine
end

section
/-! SUPPORT. The frames of the service link (R157, R160, R187): a header passes its parity test and is no link reset, each
command code has one row, and reading and spelling a frame undo each other. -/

namespace Sys2Proof.Machine

/-! ## Lists of bits -/

/-- A list of ones has as many ones as bits. -/
theorem count_of_all {bs : Bits} (h : bs.all id = true) : bs.count true = bs.length := by
  rw [List.count_eq_length]
  exact fun b hb => (List.all_eq_true.mp h b hb).symm

/-- The word that a list of bits spells has the list as its bits. -/
theorem wordBits_ofNat_bitsNat (bs : Bits) : wordBits (BitVec.ofNat bs.length (bitsNat bs)) = bs := by
  have h := wordBits_bitField bs 0 bs.length (by omega)
  rwa [bitField, List.drop_zero, List.take_length] at h

/-- A word whose bits are all ones is the word of ones. -/
theorem wordBits_all_iff {w : Nat} (x : BitVec w) : (wordBits x).all id = true ↔ x = BitVec.allOnes w := by
  constructor
  · intro h
    refine BitVec.eq_of_getMsbD_eq fun j hj => ?_
    have hbit := List.all_eq_true.mp h _ (List.getElem_mem (show j < (wordBits x).length by simpa using hj))
    rw [wordBits_getElem] at hbit
    simpa [BitVec.getMsbD_allOnes, hj] using hbit
  · rintro rfl
    rw [List.all_eq_true]
    intro b hb
    obtain ⟨j, hj, rfl⟩ := List.mem_iff_getElem.mp hb
    rw [wordBits_getElem]
    simpa using hj

/-! ## The header (R160) -/

/-- A parity bit makes the count of ones odd. -/
theorem oddOnes_append_parity (body : Bits) : oddOnes (body ++ [!oddOnes body]) = true := by
  unfold oddOnes
  rw [List.count_append]
  rcases Nat.mod_two_eq_zero_or_one (body.count true) with h | h <;> simp [h, Nat.add_mod]

/-- The parity bit is the one bit that passes the test. -/
theorem parity_of_oddOnes {body : Bits} {b : Bool} (h : oddOnes (body ++ [b]) = true) : b = !oddOnes body := by
  unfold oddOnes at h ⊢
  rw [List.count_append] at h
  rcases Nat.mod_two_eq_zero_or_one (body.count true) with h' | h' <;> cases b <;> simp [h', Nat.add_mod] at h ⊢

theorem oddOnes_headerBits (code : BitVec 6) (o : BitVec 5) : oddOnes (headerBits code o) = true :=
  oddOnes_append_parity _

/-- A header is not twelve ones, whose count is even. -/
theorem not_all_headerBits (code : BitVec 6) (o : BitVec 5) : ¬ (headerBits code o).all id = true := by
  intro h
  have hodd := oddOnes_headerBits code o
  rw [oddOnes, count_of_all h, headerBits_length] at hodd
  cases hodd

theorem bitField_headerBits_code (code : BitVec 6) (o : BitVec 5) : bitField (headerBits code o) 0 6 = code := by
  have h := bitField_append [] (wordBits o ++ [!oddOnes (wordBits code ++ wordBits o)]) code 0 rfl
  rwa [List.nil_append, ← List.append_assoc] at h

theorem bitField_headerBits_operand (code : BitVec 6) (o : BitVec 5) : bitField (headerBits code o) 6 5 = o :=
  bitField_append (wordBits code) _ o 6 (wordBits_length code)

/-- A header that passes the parity test is spelled by its code and operand. -/
theorem headerBits_of_oddOnes {header : Bits} (hlen : header.length = 12) (hodd : oddOnes header = true) :
    headerBits (bitField header 0 6) (bitField header 6 5) = header := by
  have hbody : wordBits (bitField header 0 6) ++ wordBits (bitField header 6 5) = header.take 11 := by
    rw [wordBits_bitField header 0 6 (by omega), wordBits_bitField header 6 5 (by omega), List.drop_zero,
      ← List.take_add]
  have hsplit : header.take 11 ++ [header[11]] = header := by
    rw [List.take_append_getElem]
    exact List.take_of_length_le hlen.le
  rw [← hsplit] at hodd
  rw [headerBits, hbody, ← parity_of_oddOnes hodd, hsplit]

/-! ## The codes of the rows (R187) -/

theorem code_eq_of_toNat {code : BitVec 6} {n : Nat} (h : code.toNat = n) : code = BitVec.ofNat 6 n := by
  rw [← h, BitVec.ofNat_toNat, BitVec.setWidth_eq]

/-- The row of a code is well-formed, and is spelled with that code. -/
theorem commandOf_some {code : BitVec 6} {o : BitVec 5} {r : Bits} {i : Instr} (h : commandOf code o r = some i) :
    i.wf = true ∧ frameBits i = commandBits code o r := by
  unfold commandOf at h
  split at h
  case h_20 => cases h
  all_goals
    rename_i hcode
    cases h
    rw [code_eq_of_toNat hcode]
    exact ⟨rfl, rfl⟩

/-- So is the row of a code that names no command. -/
theorem commandOf_getD (code : BitVec 6) (o : BitVec 5) (r : Bits) :
    ((commandOf code o r).getD (.unknownCommand code o r)).wf = true
      ∧ frameBits ((commandOf code o r).getD (.unknownCommand code o r)) = commandBits code o r := by
  cases h : commandOf code o r with
  | some i => exact commandOf_some h
  | none => exact ⟨(unknownCommand_wf_iff code o r).mpr ((commandOf_eq_none_iff code o r).mp h), rfl⟩

/-! ## Reading a frame (R157) -/

/-- A frame of 1 to 11 bits is a short header. -/
theorem frameCommand_short {bits : Bits} (hpos : bits.length ≠ 0) (hshort : bits.length < 12) :
    frameCommand bits = .shortHeaderFrame bits := by
  have hlt : bits.length < headerLength := hshort
  rw [frameCommand, if_neg hpos, if_pos hlt]

/-- A frame of twelve bits or more, by its header and what follows it. -/
theorem frameCommand_append {header : Bits} (rest : Bits) (hlen : header.length = 12) :
    frameCommand (header ++ rest)
      = if header.all id then .linkReset rest
        else if !oddOnes header then .parityErrorFrame (bitField header 0 12) rest
        else
          (commandOf (bitField header 0 6) (bitField header 6 5) rest).getD
            (.unknownCommand (bitField header 0 6) (bitField header 6 5) rest) := by
  have htake : (header ++ rest).take headerLength = header := List.take_left' hlen
  have hdrop : (header ++ rest).drop headerLength = rest := List.drop_left' hlen
  have hlong : headerLength ≤ (header ++ rest).length := by
    rw [List.length_append, hlen, headerLength]
    omega
  rw [frameCommand, if_neg (by unfold headerLength at hlong; omega), if_neg (Nat.not_lt.mpr hlong), htake, hdrop]

/-- The frame of a code and an operand is read as the row of the code. -/
theorem frameCommand_headerBits (code : BitVec 6) (o : BitVec 5) (r : Bits) :
    frameCommand (headerBits code o ++ r) = (commandOf code o r).getD (.unknownCommand code o r) := by
  rw [frameCommand_append r (headerBits_length code o), if_neg (not_all_headerBits code o), oddOnes_headerBits,
    bitField_headerBits_code, bitField_headerBits_operand]
  rfl

/-- A row with a command code is read back from its frame. -/
theorem frameCommand_of_commandBits {code : BitVec 6} {o : BitVec 5} {r bits : Bits} {i : Instr}
    (hi : (commandOf code o r).getD (.unknownCommand code o r) = i) (hb : commandBits code o r = some bits) :
    frameCommand bits = i := by
  obtain rfl : headerBits code o ++ r = bits := Option.some.inj hb
  rw [frameCommand_headerBits, hi]

/-- Settles O3: the rows with a code by the table of codes, the others by the test of R157 that sorts them out. -/
theorem frameBitsReadBack : Obligations.FrameBitsReadBack := by
  intro i bits hwf hb
  cases i with
  | zeroBitFrame =>
    obtain rfl := Option.some.inj hb
    rfl
  | shortHeaderFrame b =>
    obtain rfl : b = bits := Option.some.inj hb
    obtain ⟨hpos, hshort⟩ := (shortHeaderFrame_wf_iff b).mp hwf
    exact frameCommand_short (by omega) (by omega)
  | linkReset r =>
    obtain rfl : List.replicate 12 true ++ r = bits := Option.some.inj hb
    rw [frameCommand_append r List.length_replicate, if_pos (by decide)]
  | parityErrorFrame h r =>
    obtain rfl : wordBits h ++ r = bits := Option.some.inj hb
    obtain ⟨heven, hones⟩ := (parityErrorFrame_wf_iff h r).mp hwf
    have hfield : bitField (wordBits h) 0 12 = h := by simpa using bitField_append [] [] h 0 rfl
    rw [frameCommand_append r (wordBits_length h), if_neg (mt (wordBits_all_iff h).mp hones), heven, hfield]
    rfl
  | unknownCommand c o r =>
    have hnone : commandOf c o r = none := (commandOf_eq_none_iff c o r).mpr ((unknownCommand_wf_iff c o r).mp hwf)
    exact frameCommand_of_commandBits (by rw [hnone]; rfl) hb
  | requestAccept | issue | writeAck | readData | tick | periodEnd | halfGrant | holdLimitExpiry | drainStuck
  | freezeAssert | freezeRelease | hardReset | resetRelease | mSideCanTakeRequest | sselRemnantNegation =>
    cases hb
  | noOperation o r | readDeviceStatus o r | setDeviceControls o r | clearAlerts o r | stageDescriptor o r
  | readActiveDescriptor o r | readStagedDescriptor o r | startClass o r | stopClass o r | restartClass o r
  | readClassStatus o r | writeMapEntry o r | readMapEntry o r | readSlot o r | fence o r | unfence o r
  | readRecord o r | retireRecord o r | clearRegulation o r => exact frameCommand_of_commandBits rfl hb

/-- The row that a list of bits is read as is well-formed, and is spelled by the bits. -/
theorem frameCommand_spelled (bits : Bits) :
    (frameCommand bits).wf = true ∧ frameBits (frameCommand bits) = some bits := by
  rcases Nat.lt_or_ge bits.length 12 with hshort | hlong
  · by_cases hzero : bits.length = 0
    · obtain rfl := List.length_eq_zero_iff.mp hzero
      exact ⟨rfl, rfl⟩
    · rw [frameCommand_short hzero hshort]
      exact ⟨(shortHeaderFrame_wf_iff bits).mpr ⟨by omega, by omega⟩, rfl⟩
  · obtain ⟨header, rest, hlen, rfl⟩ : ∃ header rest : Bits, header.length = 12 ∧ header ++ rest = bits :=
      ⟨bits.take 12, bits.drop 12, by simpa using hlong, List.take_append_drop 12 bits⟩
    have hword : wordBits (bitField header 0 12) = header := by
      rw [wordBits_bitField header 0 12 (by omega), List.drop_zero, ← hlen, List.take_length]
    rw [frameCommand_append rest hlen]
    split
    next hones =>
      have hheader : header = List.replicate 12 true :=
        List.eq_replicate_iff.mpr ⟨hlen, fun b hb => List.all_eq_true.mp hones b hb⟩
      exact ⟨rfl, by rw [hheader]; rfl⟩
    next hones =>
      split
      next heven =>
        refine ⟨(parityErrorFrame_wf_iff _ rest).mpr ⟨?_, fun hall => hones ?_⟩, ?_⟩
        · rw [hword]
          simpa using heven
        · rw [← hword]
          exact (wordBits_all_iff _).mpr hall
        · rw [frameBits, hword]
      next hodd =>
        obtain ⟨hwf, hbits⟩ := commandOf_getD (bitField header 0 6) (bitField header 6 5) rest
        refine ⟨hwf, ?_⟩
        rw [hbits, commandBits, headerBits_of_oddOnes hlen (by simpa using hodd)]

/-- Settles O4. -/
theorem everyFrameIsARow : Obligations.EveryFrameIsARow := by
  intro bits
  obtain ⟨hwf, hbits⟩ := frameCommand_spelled bits
  refine ⟨hwf, hbits, fun hne => ?_⟩
  rw [decodeTableWord, if_neg (mt List.length_eq_zero_iff.mp hne), wordBits_ofNat_bitsNat]

end Sys2Proof.Machine
end

section
/-! SUPPORT. The layouts (R186, R188 to R190): a field is read behind the fields that are skipped before it, and the
pieces that a payload is read as put it together again. -/

namespace Sys2Proof.Machine

/-! ## Reading a field of a layout -/

section
variable {v w : Nat} (x : BitVec w) (b : Bool) (rest : Bits) (pos : Nat)

/-- A word before the field is skipped. -/
theorem bitField_skip (h : w ≤ pos) : bitField (wordBits x ++ rest) pos v = bitField rest (pos - w) v := by
  rw [bitField, bitField, List.drop_append, List.drop_eq_nil_of_le (by rwa [wordBits_length]), List.nil_append,
    wordBits_length]

/-- A bit before the field is skipped. -/
theorem bitField_skip_bit (h : 1 ≤ pos) : bitField (b :: rest) pos v = bitField rest (pos - 1) v := by
  rw [bitField, bitField, List.drop_cons h]

/-- The field is the word that stands first. -/
theorem bitField_read : bitField (wordBits x ++ rest) 0 w = x := bitField_append [] rest x 0 rfl

/-- The field is the word that stands alone. -/
theorem bitField_read_last : bitField (wordBits x) 0 w = x := by
  simpa using bitField_read x []

/-- A word before the flag is skipped. -/
theorem bitFlag_skip (h : w ≤ pos) : bitFlag (wordBits x ++ rest) pos = bitFlag rest (pos - w) := by
  rw [bitFlag, bitFlag, List.getD_append_right _ _ _ _ (by rwa [wordBits_length]), wordBits_length]

/-- A bit before the flag is skipped. -/
theorem bitFlag_skip_bit (h : 1 ≤ pos) : bitFlag (b :: rest) pos = bitFlag rest (pos - 1) := by
  obtain ⟨p, rfl⟩ := Nat.exists_eq_add_of_le' h
  rfl

/-- The flag is the bit that stands first. -/
theorem bitFlag_read : bitFlag (b :: rest) 0 = b := rfl

/-- A field behind the first `n` bits. -/
theorem bitField_drop (bs : Bits) (n : Nat) : bitField (bs.drop n) pos v = bitField bs (n + pos) v := by
  rw [bitField, bitField, List.drop_drop]

/-- A flag behind the first `n` bits. -/
theorem bitFlag_drop (bs : Bits) (n : Nat) : bitFlag (bs.drop n) pos = bitFlag bs (n + pos) := by
  rw [bitFlag, bitFlag, List.getD_eq_getElem?_getD, List.getD_eq_getElem?_getD, List.getElem?_drop]

end

/-! ## Codes -/

theorem modeOfCode_code (m : GrantMode) : modeOfCode m.code = some m := by
  cases m <;> rfl

theorem code_of_modeOfCode {code : BitVec 2} {m : GrantMode} (h : modeOfCode code = some m) : m.code = code := by
  unfold modeOfCode at h
  split at h
  next hc => cases h; exact hc.symm
  next =>
    split at h
    next hc => cases h; exact hc.symm
    next => cases h

theorem lenderOfCode_code : ∀ l : Option ClassId, lenderOfCode (lenderCode l) = some l := by decide

theorem code_of_lenderOfCode : ∀ (code : BitVec 4) (l : Option ClassId),
    lenderOfCode code = some l → lenderCode l = code := by decide

theorem filterOfCode_code (f : KindFilter) : filterOfCode f.code = some f := by
  cases f <;> rfl

theorem code_of_filterOfCode {code : BitVec 2} {f : KindFilter} (h : filterOfCode code = some f) : f.code = code := by
  unfold filterOfCode at h
  split at h
  next hc => cases h; exact hc.symm
  next =>
    split at h
    next hc => cases h; exact hc.symm
    next =>
      split at h
      next hc => cases h; exact hc.symm
      next => cases h

theorem classOfBits_ofNat : ∀ c : ClassId, classOfBits (BitVec.ofNat 3 c.val) = c := by decide

theorem classBits_classOfBits (code : BitVec 3) : classBits (classOfBits code) = wordBits code := by
  rw [classBits, natBits, classOfBits, BitVec.ofNat_toNat, BitVec.setWidth_eq]

/-! ## Descriptors and map entries (R188) -/

/-- The descriptor that a layout spells is read back, whatever follows. -/
theorem parseDescriptor_bits (d : Descriptor) (more : Bits) : parseDescriptor (d.bits ++ more) = some d := by
  simp only [parseDescriptor, Descriptor.bits, List.append_assoc, List.cons_append, List.nil_append, bitField_skip,
    bitField_skip_bit, bitField_read, bitFlag_skip, bitFlag_skip_bit, bitFlag_read, modeOfCode_code, lenderOfCode_code,
    Nat.reduceLeDiff, Nat.reduceSub, Nat.le_refl, Nat.sub_self]

/-- The map entry that a layout spells is read back, whatever follows, when its range is well-formed. -/
theorem parseMapEntry_bits (e : MapEntry) (more : Bits) (h : e.base.toNat ≤ e.limit.toNat) :
    parseMapEntry (e.bits ++ more) = some e := by
  simp only [parseMapEntry, MapEntry.bits, classBits, natBits, List.append_assoc, List.cons_append, List.nil_append,
    bitField_skip, bitField_skip_bit, bitField_read, bitFlag_read, filterOfCode_code, classOfBits_ofNat, if_pos h,
    Nat.reduceLeDiff, Nat.reduceSub, Nat.le_refl, Nat.sub_self]

section
variable {bs : Bits} {pos w n : Nat}

/-- A field at the front is the first bits. -/
theorem wordBits_firstField (h : w ≤ bs.length) : wordBits (bitField bs 0 w) = bs.take w := by
  rw [wordBits_bitField bs 0 w (by omega), List.drop_zero]

/-- The bits before a field, and the field, are the bits up to the next one. -/
theorem take_append_field (hn : pos + w = n) (h : n ≤ bs.length) :
    bs.take pos ++ wordBits (bitField bs pos w) = bs.take n := by
  subst hn
  rw [wordBits_bitField bs pos w h, List.take_add]

/-- The bits before a flag, and the flag, are the bits up to the next field. -/
theorem take_append_flag (hn : pos + 1 = n) (h : n ≤ bs.length) :
    bs.take pos ++ [bitFlag bs pos] = bs.take n := by
  subst hn
  have hpos : pos < bs.length := h
  rw [bitFlag, List.getD_eq_getElem _ _ hpos, List.take_append_getElem]

/-- A flag at the front is the first bit. -/
theorem singleton_firstFlag (h : 1 ≤ bs.length) : [bitFlag bs 0] = bs.take 1 :=
  take_append_flag (pos := 0) rfl h

end

/-- A payload that is read as a descriptor is the layout of the descriptor. -/
theorem bits_of_parseDescriptor {bs : Bits} {d : Descriptor} (hlen : 82 ≤ bs.length)
    (h : parseDescriptor bs = some d) : d.bits = bs.take 82 := by
  unfold parseDescriptor at h
  split at h
  next mode lender hmode hlender =>
    obtain rfl := Option.some.inj h
    have hflags (a b : Bool) (l : Bits) : l ++ [a, b] = l ++ [a] ++ [b] := by simp
    rw [Descriptor.bits, code_of_modeOfCode hmode, code_of_lenderOfCode _ _ hlender, hflags,
      wordBits_firstField (w := 16) (by omega), take_append_field (n := 32) rfl (by omega),
      take_append_field (n := 34) rfl (by omega), take_append_field (n := 38) rfl (by omega),
      take_append_field (n := 40) rfl (by omega), take_append_field (n := 48) rfl (by omega),
      take_append_flag (n := 49) rfl (by omega), take_append_flag (n := 50) rfl (by omega),
      take_append_field (n := 82) rfl hlen]
  next => cases h

/-- A payload that is read as a map entry is the layout of the entry. -/
theorem bits_of_parseMapEntry {bs : Bits} {e : MapEntry} (hlen : 74 ≤ bs.length)
    (h : parseMapEntry bs = some e) : e.bits = bs.take 74 := by
  unfold parseMapEntry at h
  split at h
  next filter hfilter =>
    dsimp only at h
    split at h
    next hrange =>
      obtain rfl := Option.some.inj h
      rw [MapEntry.bits, code_of_filterOfCode hfilter, classBits_classOfBits,
        singleton_firstFlag (by omega), take_append_field (n := 29) rfl (by omega),
        take_append_field (n := 57) rfl (by omega), take_append_field (n := 63) rfl (by omega),
        take_append_field (n := 69) rfl (by omega), take_append_field (n := 71) rfl (by omega),
        take_append_field (n := 74) rfl hlen]
    next => cases h
  next => cases h

/-- Settles O11. -/
theorem payloadLayoutsReadBack : Obligations.PayloadLayoutsReadBack :=
  ⟨parseDescriptor_bits, fun _ _ => bits_of_parseDescriptor, parseMapEntry_bits,
    fun _ _ hlen h => ⟨bits_of_parseMapEntry hlen h, parseMapEntry_range h⟩⟩

/-! ## Response layouts (R189) -/

theorem classStatusBits_fields (s : State) (c : ClassId) :
    (s.classStatusBits c).length = 268
      ∧ bitFlag (s.classStatusBits c) 0 = (s.classes[c].run == .running)
      ∧ bitField (s.classStatusBits c) 1 2 = s.fences[c].state.code
      ∧ bitField (s.classStatusBits c) 3 17 = BitVec.ofInt 17 s.classes[c].credit
      ∧ bitField (s.classStatusBits c) 20 16 = s.classes[c].counter
      ∧ bitField (s.classStatusBits c) 36 16 = s.classes[c].number
      ∧ bitField (s.classStatusBits c) 52 16 = s.fences[c].timer
      ∧ bitField (s.classStatusBits c) 68 32 = s.digests[c]
      ∧ bitField (s.classStatusBits c) 100 24 = s.tallies[c].readBeats
      ∧ bitField (s.classStatusBits c) 124 24 = s.tallies[c].writeBeats
      ∧ bitField (s.classStatusBits c) 148 24 = s.tallies[c].lentBeats
      ∧ bitField (s.classStatusBits c) 172 24 = s.tallies[c].borrowedBeats
      ∧ bitField (s.classStatusBits c) 196 24 = s.tallies[c].forcedReleases
      ∧ bitField (s.classStatusBits c) 220 24 = s.tallies[c].creditWaits
      ∧ bitField (s.classStatusBits c) 244 24 = s.tallies[c].faults := by
  simp only [State.classStatusBits, creditBits, Tally.bits, List.append_assoc, List.cons_append, List.nil_append,
    List.length_append, List.length_cons, wordBits_length, bitField_skip, bitField_skip_bit, bitField_read,
    bitField_read_last, bitFlag_read, ClassRecord.isRunning, Nat.reduceLeDiff, Nat.reduceSub, Nat.reduceAdd,
    Nat.le_refl, Nat.sub_self, and_self]

theorem slotBits_fields (s : State) (k : SlotId) (h : HeldSlot) (hk : s.slots[k] = some h) :
    (s.slotBits k).length = 74
      ∧ bitFlag (s.slotBits k) 0 = true
      ∧ bitFlag (s.slotBits k) 1 = (h.request.kind == .write)
      ∧ bitField (s.slotBits k) 2 6 = h.request.tag
      ∧ bitField (s.slotBits k) 8 40 = h.request.address
      ∧ bitField (s.slotBits k) 48 5 = BitVec.ofNat 5 h.request.length
      ∧ bitField (s.slotBits k) 53 3 = BitVec.ofNat 3 h.cls.val
      ∧ bitField (s.slotBits k) 56 5 = BitVec.ofNat 5 (s.arrival.takeWhile fun j => j != k).length
      ∧ bitField (s.slotBits k) 61 8 = h.wait
      ∧ bitFlag (s.slotBits k) 69 = h.forced
      ∧ bitFlag (s.slotBits k) 70 = h.creditWaited
      ∧ bitField (s.slotBits k) 71 3 = (s.holdReason k h).code := by
  simp only [State.slotBits, hk, natBits, classBits, State.ageRank, State.olderThan, List.append_assoc,
    List.cons_append, List.nil_append, List.length_append, List.length_cons, wordBits_length, bitField_skip,
    bitField_skip_bit, bitField_read, bitField_read_last, bitFlag_skip, bitFlag_skip_bit, bitFlag_read,
    Nat.reduceLeDiff, Nat.reduceSub, Nat.reduceAdd, Nat.le_refl, Nat.sub_self, and_self]

theorem deviceStatusBits_fields (s : State) :
    s.deviceStatusBits.length = 108
      ∧ bitField s.deviceStatusBits 0 6 = BitVec.ofNat 6 (s.slots.toList.countP Option.isSome)
      ∧ bitField s.deviceStatusBits 6 6 = BitVec.ofNat 6 s.inFlight.length
      ∧ bitField s.deviceStatusBits 12 7 = BitVec.ofNat 7 s.records.length
      ∧ bitField s.deviceStatusBits 19 16 = s.nextSerial
      ∧ bitField s.deviceStatusBits 35 16 = s.pendingGap
      ∧ bitFlag s.deviceStatusBits 51 = s.freeze
      ∧ parseEventSet s.deviceStatusBits 99 = s.eventStates
      ∧ bitFlag s.deviceStatusBits 107 = s.alert := by
  simp only [State.deviceStatusBits, natBits, State.heldCount, EventSet.bits, parseEventSet, List.append_assoc,
    List.cons_append, List.nil_append, List.length_append, List.length_cons, List.length_nil, wordBits_length,
    bitField_skip, bitField_read, bitFlag_skip, bitFlag_skip_bit, bitFlag_read, Nat.reduceLeDiff, Nat.reduceSub,
    Nat.reduceAdd, Nat.le_refl, Nat.sub_self, and_self]

/-- The settings stand in device status as a payload of SET DEVICE CONTROLS. -/
theorem deviceStatusBits_settings (s : State) :
    controlsOf (s.deviceStatusBits.drop 52)
      = { divisor := s.divisor, drainLimit := s.drainLimit, threshold := s.threshold, mask := s.enableMask } := by
  simp only [controlsOf, parseEventSet, bitField_drop, bitFlag_drop, State.deviceStatusBits, natBits, EventSet.bits,
    List.append_assoc, List.cons_append, List.nil_append, bitField_skip, bitField_skip_bit, bitField_read, bitFlag_skip,
    bitFlag_skip_bit, bitFlag_read, Nat.reduceLeDiff, Nat.reduceSub, Nat.reduceAdd, Nat.le_refl, Nat.sub_self]

/-- A payload is in range where the settings it spells are. -/
theorem controlsInRange_iff (bs : Bits) :
    controlsInRange bs
      ↔ 16 ≤ (controlsOf bs).divisor.toNat ∧ 1 ≤ (controlsOf bs).threshold.toNat ∧ (controlsOf bs).threshold.toNat ≤ 64 :=
  Iff.rfl

/-- Settings in force that are in range are read back from device status. -/
theorem deviceStatusBits_parseControls (s : State) (hdivisor : 16 ≤ s.divisor.toNat) (hlow : 1 ≤ s.threshold.toNat)
    (hhigh : s.threshold.toNat ≤ 64) :
    parseControls (s.deviceStatusBits.drop 52)
      = some { divisor := s.divisor, drainLimit := s.drainLimit, threshold := s.threshold, mask := s.enableMask } := by
  have hrange : controlsInRange (s.deviceStatusBits.drop 52) := by
    rw [controlsInRange_iff, deviceStatusBits_settings]
    exact ⟨hdivisor, hlow, hhigh⟩
  rw [parseControls_of_inRange _ hrange, deviceStatusBits_settings]

/-- Settles O12. -/
theorem responseLayouts : Obligations.ResponseLayouts := by
  refine ⟨classStatusBits_fields, fun s k => ⟨fun hk => ?_, slotBits_fields s k⟩, fun s => ?_, rfl, rfl⟩
  · rw [State.slotBits, hk]
  · obtain ⟨hlength, hheld, hflight, hrecords, hserial, hgap, hfreeze, hevents, halert⟩ := deviceStatusBits_fields s
    exact ⟨hlength, hheld, hflight, hrecords, hserial, hgap, hfreeze, hevents, halert, deviceStatusBits_parseControls s⟩

/-! ## The period record (R190) -/

/-- The bits of a field that may be absent. -/
theorem optionalBits_length {w : Nat} (x : Option (BitVec w)) :
    ((x.map wordBits).getD []).length = if x.isSome then w else 0 := by
  cases x with
  | none => rfl
  | some x => exact wordBits_length x

theorem recordBits_fields (p : PeriodRecord) :
    bitField p.bits 0 16 = p.serial
      ∧ bitField p.bits 16 3 = BitVec.ofNat 3 p.facts.cls.val
      ∧ bitField p.bits 19 16 = p.facts.number
      ∧ bitField p.bits 35 2 = p.facts.cause.code
      ∧ bitField p.bits 37 4 = BitVec.ofNat 4 p.facts.debt
      ∧ bitFlag p.bits 41 = p.facts.adopted
      ∧ bitFlag p.bits 42 = p.facts.digest.isSome
      ∧ bitFlag p.bits 43 = p.gap.isSome
      ∧ bitField p.bits 44 24 = p.facts.tally.readBeats
      ∧ bitField p.bits 68 24 = p.facts.tally.writeBeats
      ∧ bitField p.bits 92 24 = p.facts.tally.lentBeats
      ∧ bitField p.bits 116 24 = p.facts.tally.borrowedBeats
      ∧ bitField p.bits 140 24 = p.facts.tally.forcedReleases
      ∧ bitField p.bits 164 24 = p.facts.tally.creditWaits
      ∧ bitField p.bits 188 24 = p.facts.tally.faults := by
  simp only [PeriodRecord.bits, natBits, classBits, Tally.bits, List.append_assoc, List.cons_append, List.nil_append,
    bitField_skip, bitField_skip_bit, bitField_read, bitFlag_skip, bitFlag_skip_bit, bitFlag_read, Nat.reduceLeDiff,
    Nat.reduceSub, Nat.le_refl, Nat.sub_self, and_self]

theorem recordBits_length (p : PeriodRecord) :
    p.bits.length = 212 + (if p.facts.digest.isSome then 32 else 0) + (if p.gap.isSome then 16 else 0) := by
  simp only [PeriodRecord.bits, natBits, classBits, Tally.bits, List.length_append, List.length_cons, List.length_nil,
    wordBits_length, optionalBits_length, Nat.reduceAdd]

/-- A digest stands behind the fixed fields. -/
theorem recordBits_digest (p : PeriodRecord) (d : Digest) (h : p.facts.digest = some d) :
    bitField p.bits 212 32 = d := by
  simp only [PeriodRecord.bits, natBits, classBits, Tally.bits, h, Option.map_some, Option.getD_some, List.append_assoc,
    List.cons_append, List.nil_append, bitField_skip, bitField_skip_bit, bitField_read, Nat.reduceLeDiff, Nat.reduceSub,
    Nat.le_refl, Nat.sub_self]

/-- A gap stands behind the fixed fields and any digest. -/
theorem recordBits_gap (p : PeriodRecord) (g : BitVec 16) (h : p.gap = some g) :
    bitField p.bits (if p.facts.digest.isSome then 244 else 212) 16 = g := by
  cases hd : p.facts.digest with
  | none =>
    simp only [PeriodRecord.bits, natBits, classBits, Tally.bits, h, hd, Option.map_some, Option.map_none,
      Option.getD_some, Option.getD_none, Option.isSome_none, Bool.false_eq_true, if_false, List.append_assoc,
      List.cons_append, List.nil_append, bitField_skip, bitField_skip_bit, bitField_read_last, Nat.reduceLeDiff,
      Nat.reduceSub, Nat.le_refl, Nat.sub_self]
  | some d =>
    simp only [PeriodRecord.bits, natBits, classBits, Tally.bits, h, hd, Option.map_some, Option.getD_some,
      Option.isSome_some, if_true, List.append_assoc, List.cons_append, List.nil_append, bitField_skip,
      bitField_skip_bit, bitField_read_last, Nat.reduceLeDiff, Nat.reduceSub, Nat.le_refl, Nat.sub_self]

/-- Settles O13. -/
theorem recordLayout : Obligations.RecordLayout := by
  refine ⟨fun p => ?_, rfl⟩
  obtain ⟨hserial, hcls, hnumber, hcause, hdebt, hadopted, hdigest, hgap, h1, h2, h3, h4, h5, h6, h7⟩ :=
    recordBits_fields p
  exact ⟨recordBits_length p, hserial, hcls, hnumber, hcause, hdebt, hadopted, hdigest, hgap, h1, h2, h3, h4, h5, h6,
    h7, recordBits_digest p, recordBits_gap p⟩

end Sys2Proof.Machine
end
